-- ==== Sys2Proof/Word.lean ====
section
/-! DEFINITION. The widths of BFCORE (00_scope.md R6, R7): every value is an unsigned bit vector. -/

namespace Sys2Proof

/-- `u32`: every table word, each block half, `wdata` and `rdata` (00_scope.md R6, `W`, `DW`). -/
abbrev Word := BitVec 32

/-- One byte of a word, an index into an S-box (41_encrypt.md R80). -/
abbrev Byte := BitVec 8

/-- A command word `cw` (00_scope.md R6, `CW`). -/
abbrev CmdWord := BitVec 16

/-- The index field `pidx` of format P: five bits, of which 0 to 17 are legal (30_encoding.md R56). -/
abbrev PIdx := BitVec 5

/-- The field `box` of format S (30_encoding.md R57). -/
abbrev BoxIdx := BitVec 2

/-- The field `ent` of format S (30_encoding.md R57). -/
abbrev EntIdx := BitVec 8

/-- `a +32 b`: addition modulo 2^32, the carry out discarded and recorded nowhere (41_encrypt.md R87). -/
abbrev add32 (a b : Word) : Word := a + b

end Sys2Proof
end

