-- ==== Sys2Proof/Syntax.lean ====
section
/-! DEFINITION. The fifteen commands of BFCORE-CMD version 1 (30_encoding.md R59), what travels on the command channel,
and the three reasons a command word is rejected for. -/

namespace Sys2Proof

/-- One issued command: the pair `(cw, wdata)` (30_encoding.md R54). -/
structure Command where
  cw    : CmdWord
  wdata : Word
  deriving DecidableEq, Repr

/-- The three causes of the illegal-command exception (60_exceptions.md R131). -/
inductive Illegal where
  /-- The operation field is the reserved value 0xF. -/
  | illOp
  /-- A must-be-zero field of the command's format is not zero. -/
  | illFld
  /-- The P index is 18 to 31. -/
  | illIdx
  deriving DecidableEq, Repr

/-- A command, one constructor per row of the opcode map. The seven commands that take data carry `wdata`; the eight
that ignore it (30_encoding.md R58) do not. -/
inductive Instr where
  /-- `NOP` (44_control.md R120). -/
  | nop
  /-- `INIT` (40_init.md R70). -/
  | init
  /-- `ENC` (41_encrypt.md R83). -/
  | enc
  /-- `RDSTAT` (44_control.md R121). -/
  | rdstat
  /-- `WRL v` (42_block_regs.md R100). -/
  | wrl (v : Word)
  /-- `WRR v` (42_block_regs.md R101). -/
  | wrr (v : Word)
  /-- `XORL v` (42_block_regs.md R102). -/
  | xorl (v : Word)
  /-- `XORR v` (42_block_regs.md R103). -/
  | xorr (v : Word)
  /-- `RDL` (42_block_regs.md R104). -/
  | rdl
  /-- `RDR` (42_block_regs.md R105). -/
  | rdr
  /-- `WRP i, v` (43_table_access.md R110). -/
  | wrp (i : PIdx) (v : Word)
  /-- `XORP i, v` (43_table_access.md R111). -/
  | xorp (i : PIdx) (v : Word)
  /-- `RDP i` (43_table_access.md R112). -/
  | rdp (i : PIdx)
  /-- `WRS b, j, v` (43_table_access.md R113). -/
  | wrs (b : BoxIdx) (j : EntIdx) (v : Word)
  /-- `RDS b, j` (43_table_access.md R114). -/
  | rds (b : BoxIdx) (j : EntIdx)
  deriving DecidableEq, Repr

/-- The command takes `wdata` (30_encoding.md R58, the column "takes wdata" of R59). -/
def Instr.takesData : Instr → Bool
  | .wrl _ => true
  | .wrr _ => true
  | .xorl _ => true
  | .xorr _ => true
  | .wrp _ _ => true
  | .xorp _ _ => true
  | .wrs _ _ _ => true
  | .nop => false
  | .init => false
  | .enc => false
  | .rdstat => false
  | .rdl => false
  | .rdr => false
  | .rdp _ => false
  | .rds _ _ => false

end Sys2Proof
end

