-- ==== Sys2Proof/WellFormed.lean ====
section
/-! DEFINITION. The one check that the widths of the fields do not make by themselves: a P index is 0 to 17
(20_memory.md R31, 30_encoding.md R63). Every box and entry is legal (20_memory.md R32). -/

namespace Sys2Proof

/-- `i` selects a word of the P-array (20_memory.md R31). -/
def PIdx.legal (i : PIdx) : Bool := decide (i.toNat < 18)

/-- The term is a command of 30_encoding.md R59. -/
def Instr.wellFormed : Instr → Bool
  | .wrp i _ => PIdx.legal i
  | .xorp i _ => PIdx.legal i
  | .rdp i => PIdx.legal i
  | .nop => true
  | .init => true
  | .enc => true
  | .rdstat => true
  | .wrl _ => true
  | .wrr _ => true
  | .xorl _ => true
  | .xorr _ => true
  | .rdl => true
  | .rdr => true
  | .wrs _ _ _ => true
  | .rds _ _ => true

end Sys2Proof
end

