-- ==== Sys2Proof/Decode.lean ====
section
/-! DEFINITION. The decoder of 30_encoding.md R61, total on all 65536 command words, the encoder written from R59 and
R63, and the opcode map as rows. -/

namespace Sys2Proof

/-- `cw[15:12]`, the operation field (30_encoding.md R54). -/
def opField (cw : CmdWord) : BitVec 4 := cw.extractLsb' 12 4

/-- `cw[11:0]`, which format N requires to be zero (30_encoding.md R55). -/
def zero12Field (cw : CmdWord) : BitVec 12 := cw.extractLsb' 0 12

/-- `cw[11:5]`, which format P requires to be zero (30_encoding.md R56). -/
def zero7Field (cw : CmdWord) : BitVec 7 := cw.extractLsb' 5 7

/-- `cw[4:0]`, the P index (30_encoding.md R56). -/
def pidxField (cw : CmdWord) : PIdx := cw.extractLsb' 0 5

/-- `cw[11:10]`, which format S requires to be zero (30_encoding.md R57). -/
def zero2Field (cw : CmdWord) : BitVec 2 := cw.extractLsb' 10 2

/-- `cw[9:8]`, the S-box number (30_encoding.md R57). -/
def boxField (cw : CmdWord) : BoxIdx := cw.extractLsb' 8 2

/-- `cw[7:0]`, the entry (30_encoding.md R57). -/
def entField (cw : CmdWord) : EntIdx := cw.extractLsb' 0 8

/-- `N-command(op)` of 30_encoding.md R61, for `op` 0x0 to 0x9; no other value reaches it. -/
def nCommand (op : Nat) (v : Word) : Except Illegal Instr :=
  match op with
  | 0 => .ok .nop
  | 1 => .ok .init
  | 2 => .ok .enc
  | 3 => .ok .rdstat
  | 4 => .ok (.wrl v)
  | 5 => .ok (.wrr v)
  | 6 => .ok (.xorl v)
  | 7 => .ok (.xorr v)
  | 8 => .ok .rdl
  | 9 => .ok .rdr
  | _ => .error .illOp

/-- `P-command(op, i)` of 30_encoding.md R61, for `op` 0xA to 0xC; no other value reaches it. -/
def pCommand (op : Nat) (i : PIdx) (v : Word) : Except Illegal Instr :=
  match op with
  | 10 => .ok (.wrp i v)
  | 11 => .ok (.xorp i v)
  | 12 => .ok (.rdp i)
  | _ => .error .illOp

/-- `S-command(op, b, j)` of 30_encoding.md R61, for `op` 0xD and 0xE; no other value reaches it. -/
def sCommand (op : Nat) (b : BoxIdx) (j : EntIdx) (v : Word) : Except Illegal Instr :=
  match op with
  | 13 => .ok (.wrs b j v)
  | 14 => .ok (.rds b j)
  | _ => .error .illOp

/-- The decoder (30_encoding.md R61): the checks in the order ILLOP, ILLFLD, ILLIDX (60_exceptions.md R133). `wdata`
takes no part in it beyond being the operand of the commands that take data. -/
def decode (c : Command) : Except Illegal Instr :=
  let op := (opField c.cw).toNat
  if op = 15 then .error .illOp
  else if op ≤ 9 then
    if zero12Field c.cw ≠ 0 then .error .illFld
    else nCommand op c.wdata
  else if op ≤ 12 then
    if zero7Field c.cw ≠ 0 then .error .illFld
    else if 18 ≤ (pidxField c.cw).toNat then .error .illIdx
    else pCommand op (pidxField c.cw) c.wdata
  else
    if zero2Field c.cw ≠ 0 then .error .illFld
    else sCommand op (boxField c.cw) (entField c.cw) c.wdata

/-- A format-P word, `op * 0x1000 + i` (30_encoding.md R56, R63). -/
def formatP (op : Nat) (i : PIdx) : CmdWord := BitVec.ofNat 16 (4096 * op + i.toNat)

/-- A format-S word, `op * 0x1000 + 256 b + j` (30_encoding.md R57, R63). -/
def formatS (op : Nat) (b : BoxIdx) (j : EntIdx) : CmdWord := BitVec.ofNat 16 (4096 * op + 256 * b.toNat + j.toNat)

/-- The command that stands for an instruction (30_encoding.md R59, R63). For a command that ignores `wdata` the listing
convention of R65 is taken: zero. -/
def encode : Instr → Command
  | .nop => ⟨0x0000, 0⟩
  | .init => ⟨0x1000, 0⟩
  | .enc => ⟨0x2000, 0⟩
  | .rdstat => ⟨0x3000, 0⟩
  | .wrl v => ⟨0x4000, v⟩
  | .wrr v => ⟨0x5000, v⟩
  | .xorl v => ⟨0x6000, v⟩
  | .xorr v => ⟨0x7000, v⟩
  | .rdl => ⟨0x8000, 0⟩
  | .rdr => ⟨0x9000, 0⟩
  | .wrp i v => ⟨formatP 0xA i, v⟩
  | .xorp i v => ⟨formatP 0xB i, v⟩
  | .rdp i => ⟨formatP 0xC i, 0⟩
  | .wrs b j v => ⟨formatS 0xD b j, v⟩
  | .rds b j => ⟨formatS 0xE b j, 0⟩

/-- One row of the opcode map (30_encoding.md R59): `cw` is the row's command when `cw & mask = pattern` and, where the
row has a P index, that index is at most 17. -/
structure OpcodeRow where
  mnemonic : String
  pattern  : CmdWord
  mask     : CmdWord
  hasPIdx  : Bool
  deriving DecidableEq, Repr

/-- The opcode map of 30_encoding.md R59. -/
def opcodeRows : List OpcodeRow :=
  [ ⟨"NOP", 0x0000, 0xFFFF, false⟩, ⟨"INIT", 0x1000, 0xFFFF, false⟩, ⟨"ENC", 0x2000, 0xFFFF, false⟩,
    ⟨"RDSTAT", 0x3000, 0xFFFF, false⟩, ⟨"WRL", 0x4000, 0xFFFF, false⟩, ⟨"WRR", 0x5000, 0xFFFF, false⟩,
    ⟨"XORL", 0x6000, 0xFFFF, false⟩, ⟨"XORR", 0x7000, 0xFFFF, false⟩, ⟨"RDL", 0x8000, 0xFFFF, false⟩,
    ⟨"RDR", 0x9000, 0xFFFF, false⟩, ⟨"WRP", 0xA000, 0xFFE0, true⟩, ⟨"XORP", 0xB000, 0xFFE0, true⟩,
    ⟨"RDP", 0xC000, 0xFFE0, true⟩, ⟨"WRS", 0xD000, 0xFC00, false⟩, ⟨"RDS", 0xE000, 0xFC00, false⟩ ]

/-- `cw` is a command of the row (30_encoding.md R59). -/
def rowHas (r : OpcodeRow) (cw : CmdWord) : Bool :=
  cw &&& r.mask == r.pattern && (!r.hasPIdx || PIdx.legal (pidxField cw))

/-- The row of the opcode map that an instruction's words belong to (30_encoding.md R59). -/
def Instr.mnemonic : Instr → String
  | .nop => "NOP"
  | .init => "INIT"
  | .enc => "ENC"
  | .rdstat => "RDSTAT"
  | .wrl _ => "WRL"
  | .wrr _ => "WRR"
  | .xorl _ => "XORL"
  | .xorr _ => "XORR"
  | .rdl => "RDL"
  | .rdr => "RDR"
  | .wrp _ _ => "WRP"
  | .xorp _ _ => "XORP"
  | .rdp _ => "RDP"
  | .wrs _ _ _ => "WRS"
  | .rds _ _ => "RDS"

/-- A command numbered as the opcode table numbers bits: `cw` in bits 15 to 0, `wdata`, the operand word to which the
table gives no bits, in bits 47 to 16; every bit from `nbits` up is zero. DESIGN CHOICE (notes/assumptions/5.md): the
spec gives the two words of a command on two sets of wires and no common numbering. -/
def commandOfTableWord (nbits w : Nat) : Command :=
  let bits := w % 2 ^ nbits
  ⟨BitVec.ofNat 16 bits, BitVec.ofNat 32 (bits / 2 ^ 16)⟩

/-- The instruction the decoder reads from a word of the opcode table; none where it answers an illegal command. -/
def decodeTableWord (nbits w : Nat) : Option Instr :=
  match decode (commandOfTableWord nbits w) with
  | .ok i => some i
  | .error _ => none

end Sys2Proof
end

