-- ==== Sys2Proof/Config.lean ====
section
/-! DEFINITION. What the spec leaves to the instance: two constants with no body. Every other number of the design is
fixed by 00_scope.md R6. (The constants PI_INIT, which 10_state.md R18 calls configuration, stand in
Sys2Proof/Machine/PiTable.lean.) -/

namespace Sys2Proof

/-- RESET_DRAW (10_state.md R19, 93_implementation_defined.md U1): the word that position `k` of the 1044 words P, S,
L, R holds after reset number `n`. Uninterpreted: the draws of two resets need not be equal, nor zero, nor the initial
constants. Positions 0 to 1041 are the linear order of 20_memory.md R33, 1042 is `L`, 1043 is `R`.
DESIGN CHOICE (notes/assumptions/1.md): unsafe. -/
opaque Config.resetDraw (n k : Nat) : Word

/-- How many responses may be pending when the core still accepts a command (30_encoding.md R51: "an implementation
freedom that changes no state and no response"); with no response pending it always accepts. Uninterpreted, and
finite, so a host that takes no responses "eventually stops the core from accepting commands"
(70_reset_and_hazards.md R159). DESIGN CHOICE (notes/assumptions/3.md): safe. -/
opaque Config.earlyAccepts : Nat

end Sys2Proof
end

