-- ==== Sys2Proof/Machine/State.lean ====
section
/-! DEFINITION. The state of one BFCORE as plain data (10_state.md), its two channels (30_encoding.md R50), and the state
after reset (10_state.md R19). -/

namespace Sys2Proof.Machine

/-- Why the machine stops with a fault: never. BFCORE has no failure modes (60_exceptions.md R130); an illegal command is
answered and the core goes on (60_exceptions.md R132). Nobody raises one, so there is no constructor. -/
inductive Fault where
  deriving DecidableEq, Repr

/-- Why the model refuses an instruction. -/
inductive Refusal where
  /-- Raised only by an arm of `exec` that has no meaning yet; there is none. Safe: the model would stop where the
  hardware goes on. -/
  | notModelled (mnemonic : String)
  deriving DecidableEq, Repr

/-- The P-array: 18 words (10_state.md R11). -/
abbrev PArray := Vector Word 18

/-- The four S-boxes of 256 words (10_state.md R12). -/
abbrev SBoxes := Vector (Vector Word 256) 4

/-- The three fields of `STATUS` that are implemented (10_state.md R14); bits 31 to 4 have no storage. -/
structure Status where
  /-- Bit 0: `INIT` has completed at least once since the last reset. -/
  INITD : Bool
  /-- Bit 1: some command since the last reset was answered with a non-zero status. Sticky. -/
  ERR   : Bool
  /-- Bits 3:2: the status code of the first such command; 0 while `ERR = 0`. -/
  ECODE : BitVec 2
  deriving DecidableEq, Repr

/-- The 2-bit `status` of a response (60_exceptions.md R131). -/
inductive RspStatus where
  | ok
  | illOp
  | illFld
  | illIdx
  deriving DecidableEq, Repr

/-- One response `(status, rdata)` (30_encoding.md R52). -/
structure Response where
  status : RspStatus
  rdata  : Word
  deriving DecidableEq, Repr

/-- One move of the host (70_reset_and_hazards.md R166). -/
inductive Turn where
  /-- The command channel moves: the core accepts the next offered command, if there is one and it is ready. -/
  | command
  /-- The response channel moves: the host takes the oldest pending response, if there is one. -/
  | take
  /-- `rst` is asserted (70_reset_and_hazards.md R150). -/
  | reset
  deriving DecidableEq, Repr

/-- The whole machine. `P`, `S`, `L`, `R` and `status` are the architectural state (10_state.md); `offered` and `pending`
are what stands on the two channels (30_encoding.md R50); `delivered`, `turns` and `resets` are the model's own. -/
structure State where
  /-- Round subkeys (10_state.md R11). -/
  P         : PArray
  /-- Substitution tables (10_state.md R12). -/
  S         : SBoxes
  /-- Left block half (10_state.md R13). -/
  L         : Word
  /-- Right block half (10_state.md R13). -/
  R         : Word
  /-- `STATUS` (10_state.md R14). -/
  status    : Status
  /-- Commands offered and not yet accepted, first one first (30_encoding.md R50, R51). -/
  offered   : List Command
  /-- Responses produced and not yet delivered, oldest first (30_encoding.md R52). -/
  pending   : List Response
  /-- Responses the host has taken in this run, oldest first (70_reset_and_hazards.md R165). -/
  delivered : List Response
  /-- The host's moves, first one first; with none left the command channel moves. DESIGN CHOICE
  (notes/assumptions/2.md). -/
  turns     : List Turn
  /-- How many reset draws have been used (notes/assumptions/1.md). -/
  resets    : Nat
  deriving DecidableEq, Repr

/-- The state when a reset ends, for any contents `draw` of the 1044 words that reset leaves unspecified
(10_state.md R19, 70_reset_and_hazards.md R151): `STATUS = 0`, no response pending, and what the host still offers. -/
def State.resetWith (draw : Nat → Word) (resets : Nat) (offered : List Command) (turns : List Turn) : State where
  P := Vector.ofFn fun i => draw i.val
  S := Vector.ofFn fun b => Vector.ofFn fun j => draw (18 + 256 * b.val + j.val)
  L := draw 1042
  R := draw 1043
  status := ⟨false, false, 0⟩
  offered := offered
  pending := []
  delivered := []
  turns := turns
  resets := resets

/-- The machine right after its first reset, with nothing offered (10_state.md R19, 70_reset_and_hazards.md R151, R153).
DESIGN CHOICE (notes/assumptions/1.md): P, S, L and R hold `Config.resetDraw 0`, of which nothing is known. -/
def State.reset : State := State.resetWith (Config.resetDraw 0) 1 [] []

end Sys2Proof.Machine
end

