-- ==== Sys2Proof/Machine/Operands.lean ====
section
/-! DEFINITION. How operands are assembled (30_encoding.md R58): index fields used as unsigned integers exactly as they
stand, the bytes of a block half (00_scope.md R7), and the linear order of the table words (20_memory.md R33). -/

namespace Sys2Proof.Machine

/-- `x[31:24]`, the most significant byte (00_scope.md R7). -/
def byte3 (x : Word) : Byte := x.extractLsb' 24 8

/-- `x[23:16]` (00_scope.md R7). -/
def byte2 (x : Word) : Byte := x.extractLsb' 16 8

/-- `x[15:8]` (00_scope.md R7). -/
def byte1 (x : Word) : Byte := x.extractLsb' 8 8

/-- `x[7:0]`, the least significant byte (00_scope.md R7). -/
def byte0 (x : Word) : Byte := x.extractLsb' 0 8

/-- The P word an index selects: 0 to 17 select `P[0]` to `P[17]`, 18 to 31 select nothing (20_memory.md R31). -/
def pSelect (i : PIdx) : Option (Fin 18) :=
  if h : i.toNat < 18 then some ⟨i.toNat, h⟩ else none

/-- The S-box a box field selects; every value is legal (20_memory.md R32). -/
def boxSelect (b : BoxIdx) : Fin 4 := b.toFin

/-- The entry an entry field selects; every value is legal (20_memory.md R32). -/
def entSelect (j : EntIdx) : Fin 256 := j.toFin

/-- The box of linear position `k`, `18 ≤ k ≤ 1041` (20_memory.md R33). -/
def linearBox (k : Nat) : BoxIdx := BitVec.ofNat 2 ((k - 18) >>> 8)

/-- The entry of linear position `k`, `18 ≤ k ≤ 1041` (20_memory.md R33). -/
def linearEnt (k : Nat) : EntIdx := BitVec.ofNat 8 ((k - 18) &&& 255)

end Sys2Proof.Machine
end

