-- ==== Sys2Proof/Machine/Flags.lean ====
section
/-! DEFINITION. `STATUS` (10_state.md R14) and the status codes (60_exceptions.md R131). There are no condition codes
(10_state.md R15): these are all the flags of the hardware. -/

namespace Sys2Proof.Machine

/-- The 2-bit code of a response status (60_exceptions.md R131). -/
def rspCode : RspStatus → BitVec 2
  | .ok => 0
  | .illOp => 1
  | .illFld => 2
  | .illIdx => 3

/-- The status an illegal command is answered with (60_exceptions.md R131). -/
def illegalStatus : Illegal → RspStatus
  | .illOp => .illOp
  | .illFld => .illFld
  | .illIdx => .illIdx

/-- `STATUS` as `RDSTAT` reads it: `zext_32(ECODE ‖ ERR ‖ INITD)` (44_control.md R121); bits 31 to 4 read as zero
(10_state.md R14). -/
def statusWord (st : Status) : Word :=
  (st.ECODE ++ BitVec.ofBool st.ERR ++ BitVec.ofBool st.INITD).setWidth 32

/-- `STATUS.INITD <- 1` (40_init.md R70). -/
def setInitd (st : Status) : Status := { st with INITD := true }

/-- The error record (60_exceptions.md R132): `ECODE` takes the code only if `ERR` was 0; `ERR <- 1`. -/
def recordError (code : BitVec 2) (st : Status) : Status :=
  { st with ECODE := if st.ERR then st.ECODE else code, ERR := true }

end Sys2Proof.Machine
end

