-- ==== Sys2Proof/Machine/Ops.lean ====
section
/-! DEFINITION. The shared operations: table and register access (20_memory.md R30), the response (30_encoding.md R52),
the illegal command (60_exceptions.md R132), loading the constants (40_init.md R70), the cipher (41_encrypt.md R80 to
R84), and what the two channels and reset do (30_encoding.md R50, 70_reset_and_hazards.md R151). -/

namespace Sys2Proof.Machine

/-! ### Table words and registers -/

/-- `P[i]` (20_memory.md R30, R31). -/
def readP (P : PArray) (i : Fin 18) : Word := P[i]

/-- `P` with `P[i] <- v` (20_memory.md R30). -/
def writeP (P : PArray) (i : Fin 18) (v : Word) : PArray := P.set i v

/-- `S[b][j]` (20_memory.md R30, R32). -/
def readS (S : SBoxes) (b : Fin 4) (j : Fin 256) : Word := S[b][j]

/-- `S` with `S[b][j] <- v` (20_memory.md R30). -/
def writeS (S : SBoxes) (b : Fin 4) (j : Fin 256) (v : Word) : SBoxes := S.set b (S[b].set j v)

/-- `L <- v` (10_state.md R13). -/
def State.setL (v : Word) (s : State) : State := { s with L := v }

/-- `R <- v` (10_state.md R13). -/
def State.setR (v : Word) (s : State) : State := { s with R := v }

/-- `P[i] <- v`, every other word unchanged (43_table_access.md R110). -/
def State.setP (i : Fin 18) (v : Word) (s : State) : State := { s with P := writeP s.P i v }

/-- `S[b][j] <- v`, every other word unchanged (43_table_access.md R113). -/
def State.setS (b : Fin 4) (j : Fin 256) (v : Word) (s : State) : State := { s with S := writeS s.S b j v }

/-- All 1042 table words at once, as the initial constants, and `STATUS.INITD <- 1` (40_init.md R70, R71). -/
def State.loadInit (s : State) : State := { s with P := piP, S := piS, status := setInitd s.status }

/-! ### Responses and the illegal command -/

/-- `respond(st, rd)`: the one response of a command, behind those still pending (00_scope.md R7, 30_encoding.md R52). -/
def State.respond (st : RspStatus) (rd : Word) (s : State) : State := { s with pending := s.pending ++ [⟨st, rd⟩] }

/-- The error record of an illegal command (60_exceptions.md R132). -/
def State.record (e : Illegal) (s : State) : State :=
  { s with status := recordError (rspCode (illegalStatus e)) s.status }

/-- TAKING THE EXCEPTION: what an illegal command does (60_exceptions.md R132). The first one since reset leaves its code
in `ECODE`, `ERR` is set, the answer is the code with `rdata = 0`, and nothing else changes; the core goes on with the
next command. There is no return from it, because there is nothing to return from (60_exceptions.md R137). -/
def takeIllegal (e : Illegal) (s : State) : State := (s.record e).respond (illegalStatus e) 0

/-! ### The cipher -/

/-- `F(x)` on the S-boxes (41_encrypt.md R80). -/
def roundF (S : SBoxes) (x : Word) : Word :=
  add32 (add32 (readS S 0 (byte3 x).toFin) (readS S 1 (byte2 x).toFin) ^^^ readS S 2 (byte1 x).toFin)
    (readS S 3 (byte0 x).toFin)

/-- `Round(i, l, r)`: subkey injection, F of the keyed half into the other, the halves exchanged (41_encrypt.md R81). -/
def feistelRound (P : PArray) (S : SBoxes) (lr : Word × Word) (i : Fin 18) : Word × Word :=
  (lr.2 ^^^ roundF S (lr.1 ^^^ readP P i), lr.1 ^^^ readP P i)

/-- The sixteen rounds in their order (41_encrypt.md R82). -/
def roundOrder : List (Fin 18) := [0, 1, 2, 3, 4, 5, 6, 7, 8, 9, 10, 11, 12, 13, 14, 15]

/-- What follows the rounds: the last exchange undone, `P[16]` into the right half, `P[17]` into the left
(41_encrypt.md R82). -/
def finish (P : PArray) (xy : Word × Word) : Word × Word := (xy.2 ^^^ readP P 17, xy.1 ^^^ readP P 16)

/-- `EncryptBlock(l, r)` on the tables (41_encrypt.md R82). -/
def encryptBlock (P : PArray) (S : SBoxes) (lr : Word × Word) : Word × Word :=
  finish P (roundOrder.foldl (feistelRound P S) lr)

/-- One turn of the folded loop, `n` odd, `m = n + 1` (41_encrypt.md R84). -/
def foldedTurn (P : PArray) (S : SBoxes) (x : Word × Word) (nm : Fin 18 × Fin 18) : Word × Word :=
  let xr := x.2 ^^^ roundF S x.1 ^^^ readP P nm.1
  (x.1 ^^^ roundF S xr ^^^ readP P nm.2, xr)

/-- `EncryptBlockFolded(l, r)` (41_encrypt.md R84), which no command runs; it is stated equal to `encryptBlock`. -/
def encryptBlockFolded (P : PArray) (S : SBoxes) (lr : Word × Word) : Word × Word :=
  let x := [(1, 2), (3, 4), (5, 6), (7, 8), (9, 10), (11, 12), (13, 14), (15, 16)].foldl (foldedTurn P S)
    (lr.1 ^^^ readP P 0, lr.2)
  (x.2 ^^^ readP P 17, x.1)

/-- `(L, R) <- EncryptBlock(L, R)` on the current tables (41_encrypt.md R83). -/
def State.encrypt (s : State) : State :=
  { s with L := (encryptBlock s.P s.S (s.L, s.R)).1, R := (encryptBlock s.P s.S (s.L, s.R)).2 }

/-! ### The channels and reset -/

/-- `cmd_ready`: with no response pending the core takes a command; with some pending it does while at most
`Config.earlyAccepts` are (30_encoding.md R51, 70_reset_and_hazards.md R159). DESIGN CHOICE (notes/assumptions/3.md). -/
def cmdReady (s : State) : Bool :=
  match s.pending with
  | [] => true
  | _ :: rest => decide (rest.length < Config.earlyAccepts)

/-- The command channel's handshake: the first offered command, if there is one and the core is ready, and the state with
that command taken from the channel (30_encoding.md R50). -/
def acceptCommand (s : State) : Option (Command × State) :=
  match s.offered with
  | [] => none
  | c :: rest => if cmdReady s then some (c, { s with offered := rest }) else none

/-- The response channel's handshake: the oldest pending response is delivered (30_encoding.md R50, R52). With none
pending nothing happens. -/
def takeResponse (s : State) : State :=
  match s.pending with
  | [] => s
  | r :: rest => { s with pending := rest, delivered := s.delivered ++ [r] }

/-- A reset between two commands: `(STATUS = 0, RESET_DRAW)` with a fresh draw, the undelivered responses gone, the
commands offered and not accepted still offered (70_reset_and_hazards.md R151, R152). A new run begins
(70_reset_and_hazards.md R165). -/
def hostReset (s : State) : State :=
  State.resetWith (Config.resetDraw s.resets) (s.resets + 1) s.offered s.turns

end Sys2Proof.Machine
end

