-- ==== Sys2Proof/Machine/BlockRegs.lean ====
section
/-! DEFINITION. The block register commands (42_block_regs.md). -/

namespace Sys2Proof.Machine

/-- `WRL v` (42_block_regs.md R100). -/
def execWrl (v : Word) (s : State) : Host.Outcome State Fault Refusal := .next ((s.setL v).respond .ok 0)

/-- `WRR v` (42_block_regs.md R101). -/
def execWrr (v : Word) (s : State) : Host.Outcome State Fault Refusal := .next ((s.setR v).respond .ok 0)

/-- `XORL v` (42_block_regs.md R102). -/
def execXorl (v : Word) (s : State) : Host.Outcome State Fault Refusal := .next ((s.setL (s.L ^^^ v)).respond .ok 0)

/-- `XORR v` (42_block_regs.md R103). -/
def execXorr (v : Word) (s : State) : Host.Outcome State Fault Refusal := .next ((s.setR (s.R ^^^ v)).respond .ok 0)

/-- `RDL` (42_block_regs.md R104). -/
def execRdl (s : State) : Host.Outcome State Fault Refusal := .next (s.respond .ok s.L)

/-- `RDR` (42_block_regs.md R105). -/
def execRdr (s : State) : Host.Outcome State Fault Refusal := .next (s.respond .ok s.R)

end Sys2Proof.Machine
end

