-- ==== Sys2Proof/Machine/Cipher.lean ====
section
/-! DEFINITION. The two operations of the cipher core, `INIT` (40_init.md) and `ENC` (41_encrypt.md). -/

namespace Sys2Proof.Machine

/-- `INIT` (40_init.md R70). -/
def execInit (s : State) : Host.Outcome State Fault Refusal := .next (s.loadInit.respond .ok 0)

/-- `ENC` (41_encrypt.md R83). -/
def execEnc (s : State) : Host.Outcome State Fault Refusal := .next (s.encrypt.respond .ok 0)

end Sys2Proof.Machine
end

