-- ==== Sys2Proof/Machine/Control.lean ====
section
/-! DEFINITION. The control commands `NOP` and `RDSTAT` (44_control.md). -/

namespace Sys2Proof.Machine

/-- `NOP` (44_control.md R120). -/
def execNop (s : State) : Host.Outcome State Fault Refusal := .next (s.respond .ok 0)

/-- `RDSTAT` (44_control.md R121). -/
def execRdstat (s : State) : Host.Outcome State Fault Refusal := .next (s.respond .ok (statusWord s.status))

end Sys2Proof.Machine
end

