-- ==== Sys2Proof/Machine/TableAccess.lean ====
section
/-! DEFINITION. The table access commands (43_table_access.md). An index that selects no P word makes the command
illegal, status `ILLIDX` (20_memory.md R31); the decoder never yields such a term, and a term that holds one is answered
so (notes/assumptions/5.md). -/

namespace Sys2Proof.Machine

/-- `WRP i, v` (43_table_access.md R110). -/
def execWrp (i : PIdx) (v : Word) (s : State) : Host.Outcome State Fault Refusal :=
  match pSelect i with
  | some k => .next ((s.setP k v).respond .ok 0)
  | none => .next (takeIllegal .illIdx s)

/-- `XORP i, v` (43_table_access.md R111). -/
def execXorp (i : PIdx) (v : Word) (s : State) : Host.Outcome State Fault Refusal :=
  match pSelect i with
  | some k => .next ((s.setP k (readP s.P k ^^^ v)).respond .ok 0)
  | none => .next (takeIllegal .illIdx s)

/-- `RDP i` (43_table_access.md R112). -/
def execRdp (i : PIdx) (s : State) : Host.Outcome State Fault Refusal :=
  match pSelect i with
  | some k => .next (s.respond .ok (readP s.P k))
  | none => .next (takeIllegal .illIdx s)

/-- `WRS b, j, v` (43_table_access.md R113). -/
def execWrs (b : BoxIdx) (j : EntIdx) (v : Word) (s : State) : Host.Outcome State Fault Refusal :=
  .next ((s.setS (boxSelect b) (entSelect j) v).respond .ok 0)

/-- `RDS b, j` (43_table_access.md R114). -/
def execRds (b : BoxIdx) (j : EntIdx) (s : State) : Host.Outcome State Fault Refusal :=
  .next (s.respond .ok (readS s.S (boxSelect b) (entSelect j)))

end Sys2Proof.Machine
end

