-- ==== Sys2Proof/Machine/Dispatch.lean ====
section
/-! DEFINITION. One arm per command (30_encoding.md R59). -/

namespace Sys2Proof.Machine

def exec (i : Instr) (s : State) : Host.Outcome State Fault Refusal :=
  match i with
  | .nop => Sys2Proof.Machine.execNop s
  | .init => Sys2Proof.Machine.execInit s
  | .enc => Sys2Proof.Machine.execEnc s
  | .rdstat => Sys2Proof.Machine.execRdstat s
  | .wrl v => Sys2Proof.Machine.execWrl v s
  | .wrr v => Sys2Proof.Machine.execWrr v s
  | .xorl v => Sys2Proof.Machine.execXorl v s
  | .xorr v => Sys2Proof.Machine.execXorr v s
  | .rdl => Sys2Proof.Machine.execRdl s
  | .rdr => Sys2Proof.Machine.execRdr s
  | .wrp k v => Sys2Proof.Machine.execWrp k v s
  | .xorp k v => Sys2Proof.Machine.execXorp k v s
  | .rdp k => Sys2Proof.Machine.execRdp k s
  | .wrs b j v => Sys2Proof.Machine.execWrs b j v s
  | .rds b j => Sys2Proof.Machine.execRds b j s

end Sys2Proof.Machine
end

