-- ==== Sys2Proof/Machine/Step.lean ====
section
/-! DEFINITION. One step of the machine: the next move of the host (70_reset_and_hazards.md R166), and with it, when the
command channel moves, one whole command (30_encoding.md R51). -/

namespace Sys2Proof.Machine

/-- One issued command, at transaction level (30_encoding.md R51): decoded and executed, or answered as illegal
(60_exceptions.md R132). -/
def runCommand (c : Command) (s : State) : Host.Outcome State Fault Refusal :=
  match decode c with
  | .ok i => exec i s
  | .error e => .next (takeIllegal e s)

/-- The command channel moves: the core accepts and executes a command, or, with none offered or while it is not ready,
nothing happens (30_encoding.md R50; 70_reset_and_hazards.md R153, R159). -/
def commandTurn (s : State) : Host.Outcome State Fault Refusal :=
  match acceptCommand s with
  | some (c, s0) => runCommand c s0
  | none => .next s

/-- The host's next move; with no move listed the command channel moves. -/
def step (s : State) : Host.Outcome State Fault Refusal :=
  match s.turns with
  | [] => commandTurn s
  | .command :: ts => commandTurn { s with turns := ts }
  | .take :: ts => .next (takeResponse { s with turns := ts })
  | .reset :: ts => .next (hostReset { s with turns := ts })

/-- `s` with a command placed so that the very next step accepts and runs it: first on the command channel, a turn of
that channel next, and every pending response taken by the host, so that the core is ready
(notes/assumptions/4.md). -/
def State.withFetchWord (s : State) (nbits w : Nat) : State :=
  { s with
    offered := commandOfTableWord nbits w :: s.offered
    turns := .command :: s.turns
    delivered := s.delivered ++ s.pending
    pending := [] }

end Sys2Proof.Machine
end

