-- ==== Sys2Proof/Machine/Assembly.lean ====
section
/-! DEFINITION. The listing side: pseudo-commands and their expansions (30_encoding.md R64), the linear order of the
table words (20_memory.md R33), and a program as the commands a host offers (70_reset_and_hazards.md R165). The core sees
only the expansion. -/

namespace Sys2Proof.Machine

/-- The pseudo-commands (30_encoding.md R64). -/
inductive Pseudo where
  /-- `LDBLK l, r`: load a block. -/
  | ldblk (l r : Word)
  /-- `CLRBLK`: the "zero-blocks" start of a key expansion. -/
  | clrblk
  /-- `RDBLK`: read a block, `L` first. -/
  | rdblk
  /-- `ENCN n`: `n` encryptions. -/
  | encn (n : Nat)
  /-- `WRT k, v`: write by linear position. -/
  | wrt (k : Fin 1042) (v : Word)
  /-- `RDT k`: read by linear position. -/
  | rdt (k : Fin 1042)
  deriving DecidableEq, Repr

/-- The expansion (30_encoding.md R64). -/
def expandPseudo : Pseudo → List Instr
  | .ldblk l r => [.wrl l, .wrr r]
  | .clrblk => [.wrl 0, .wrr 0]
  | .rdblk => [.rdl, .rdr]
  | .encn n => List.replicate n .enc
  | .wrt k v => if k.val < 18 then [.wrp (BitVec.ofNat 5 k.val) v] else [.wrs (linearBox k.val) (linearEnt k.val) v]
  | .rdt k => if k.val < 18 then [.rdp (BitVec.ofNat 5 k.val)] else [.rds (linearBox k.val) (linearEnt k.val)]

/-- The table word at linear position `k` (20_memory.md R33). -/
def linearWord (s : State) (k : Fin 1042) : Word :=
  if h : k.val < 18 then readP s.P ⟨k.val, h⟩
  else readS s.S (boxSelect (linearBox k.val)) (entSelect (linearEnt k.val))

/-- Commands executed one after the other, each on the state the one before it left (30_encoding.md R51). -/
def execAll : List Instr → State → Host.Outcome State Fault Refusal
  | [], s => .next s
  | i :: rest, s =>
    match exec i s with
    | .next t => execAll rest t
    | .fault f => .fault f
    | .refused r => .refused r

/-- `s` with a host that issues these instructions in order and takes each response before the next command
(notes/assumptions/4.md). -/
def State.withProgram (is : List Instr) (s : State) : State :=
  { s with
    offered := is.map encode
    turns := is.flatMap fun _ => [.command, .take] }

end Sys2Proof.Machine
end

