-- ==== Sys2Proof/Safety.lean ====
section
/-! DEFINITION. What a safe run is, in the terms the statements use: the legal values of `STATUS`, well-formed responses,
the bound on pending responses, and the responses of a run as the record that `STATUS` must agree with. -/

namespace Sys2Proof.Machine

/-- Legal values (10_state.md R14): `ERR = 0` implies `ECODE = 0`; `ERR = 1` implies `ECODE` in {1, 2, 3}. -/
abbrev Status.Legal (st : Status) : Prop := st.ERR = true ↔ st.ECODE ≠ 0

/-- A response with non-zero status carries `rdata = 0` (30_encoding.md R52). -/
abbrev Response.Legal (r : Response) : Prop := r.status ≠ .ok → r.rdata = 0

/-- The responses of the run so far, in the order of their commands: those delivered, then those pending
(30_encoding.md R52, 70_reset_and_hazards.md R165). -/
def State.answers (s : State) : List Response := s.delivered ++ s.pending

/-- The code of the first response with non-zero status; 0 if there is none (10_state.md R14, field `ECODE`). -/
def firstErrorCode : List Response → BitVec 2
  | [] => 0
  | r :: rest => if rspCode r.status = 0 then firstErrorCode rest else rspCode r.status

/-- `STATUS` records the run's responses (10_state.md R14): `ERR` says that some response had a non-zero status, `ECODE`
holds the first such status. -/
abbrev State.StatusRecords (s : State) : Prop :=
  s.status.ERR = s.answers.any (fun r => decide (r.status ≠ .ok)) ∧ s.status.ECODE = firstErrorCode s.answers

/-- The invariant of the machine. -/
abbrev State.Inv (s : State) : Prop :=
  s.status.Legal ∧ (∀ r ∈ s.answers, r.Legal) ∧ s.pending.length ≤ Config.earlyAccepts + 1

/-- A command's answer and nothing else on the channels: `t` has `r` behind what was pending in `s`, and the host's side
is as it was (30_encoding.md R51, R52). -/
abbrev Answered (s t : State) (r : Response) : Prop :=
  t.pending = s.pending ++ [r] ∧ t.offered = s.offered ∧ t.delivered = s.delivered ∧ t.turns = s.turns ∧
    t.resets = s.resets

/-- The tables are as they were, word for word. -/
abbrev SameTables (s t : State) : Prop :=
  (∀ k, readP t.P k = readP s.P k) ∧ ∀ b j, readS t.S b j = readS s.S b j

/-- An illegal command's effect (60_exceptions.md R132): the error record and the answer, nothing else. -/
abbrev IllegalEffect (e : Illegal) (s t : State) : Prop :=
  t.status.ERR = true ∧ t.status.ECODE = (if s.status.ERR then s.status.ECODE else rspCode (illegalStatus e)) ∧
    t.status.INITD = s.status.INITD ∧ SameTables s t ∧ t.L = s.L ∧ t.R = s.R ∧ Answered s t ⟨illegalStatus e, 0⟩

/-- Tables, block registers and `STATUS` are as they were. -/
abbrev SameData (s t : State) : Prop := SameTables s t ∧ t.L = s.L ∧ t.R = s.R ∧ t.status = s.status

/-- Every format-N word of the operation with a non-zero argument field is answered `ILLFLD` (30_encoding.md R55). -/
abbrev RejectsArgument (op : Nat) (s : State) : Prop :=
  ∀ (v : Word) (x : Nat), 0 < x → x < 4096 →
    ∃ t, runCommand ⟨BitVec.ofNat 16 (4096 * op + x), v⟩ s = .next t ∧ IllegalEffect .illFld s t

/-- Every format-P word of the operation with a non-zero reserved bit is answered `ILLFLD`, and with none but an index of
18 to 31 `ILLIDX` (30_encoding.md R56). -/
abbrev RejectsPWords (op : Nat) (s : State) : Prop :=
  ∀ (v : Word) (x : Nat),
    (32 ≤ x → x < 4096 →
      ∃ t, runCommand ⟨BitVec.ofNat 16 (4096 * op + x), v⟩ s = .next t ∧ IllegalEffect .illFld s t) ∧
    (18 ≤ x → x < 32 →
      ∃ t, runCommand ⟨BitVec.ofNat 16 (4096 * op + x), v⟩ s = .next t ∧ IllegalEffect .illIdx s t)

/-- Every format-S word of the operation with a non-zero reserved bit is answered `ILLFLD` (30_encoding.md R57). -/
abbrev RejectsSWords (op : Nat) (s : State) : Prop :=
  ∀ (v : Word) (x : Nat), 1024 ≤ x → x < 4096 →
    ∃ t, runCommand ⟨BitVec.ofNat 16 (4096 * op + x), v⟩ s = .next t ∧ IllegalEffect .illFld s t

/-- The command channel moves next: its turn is listed, or no turn is left. -/
abbrev CommandMovesNext (s : State) : Prop := s.turns = [] ∨ ∃ ts, s.turns = .command :: ts

end Sys2Proof.Machine
end

