-- ==== Sys2Proof/Certificates/Slice0/Obligations.lean ====
section
/-! DEFINITION. The statements for the provers. Each docstring names the rule or section of spec/ it formalises, and, where a
clause rests on a choice of the model, the log entry. -/

open Sys2Proof Sys2Proof.Machine

/-! ### Reset and the host's moves -/

/-- 70_reset_and_hazards.md R151, 10_state.md R19: after a reset turn `STATUS` is zero, no response is pending, the core is
ready, and the offered commands are still offered; the same holds of the power-on state. What P, S, L and R hold is left
open (notes/assumptions/1.md). -/
def Obligations.ResetClearsStatusAndResponses : Prop :=
  (∀ (s : State) (ts : List Turn), s.turns = .reset :: ts →
    ∃ t, step s = .next t ∧ t.status = ⟨false, false, 0⟩ ∧ statusWord t.status = 0 ∧ t.pending = [] ∧
      cmdReady t = true ∧ t.offered = s.offered ∧ t.turns = ts) ∧
  State.reset.status = ⟨false, false, 0⟩ ∧ statusWord State.reset.status = 0 ∧ State.reset.pending = [] ∧
    State.reset.offered = [] ∧ cmdReady State.reset = true

/-- 70_reset_and_hazards.md R152 and 93_implementation_defined.md U10: reset in two states that differ in anything but the
host's side (what it offers, its moves, how many resets there were) leaves the same state, so nothing of a command in
progress, of the tables or of the block survives it. That the draw is a function of a counter is the model's choice
(notes/assumptions/1.md). -/
def Obligations.ResetForgetsEverything : Prop :=
  ∀ (s s' : State) (ts : List Turn), s.turns = .reset :: ts → s'.turns = s.turns → s'.offered = s.offered →
    s'.resets = s.resets → ∃ t, step s = .next t ∧ step s' = .next t

/-- 70_reset_and_hazards.md R153, 30_encoding.md R51: with nothing offered the core executes nothing. -/
def Obligations.IdleCoreExecutesNothing : Prop :=
  ∀ s : State, CommandMovesNext s → s.offered = [] → step s = .next { s with turns := s.turns.tail }

/-- 70_reset_and_hazards.md R159: a core that is not ready drops no command and no response; taking a response delivers
the oldest one and changes nothing else; some number of untaken responses stops the core; with none pending it is ready. -/
def Obligations.UntakenResponsesStallWithoutLoss : Prop :=
  (∀ s : State, CommandMovesNext s → cmdReady s = false → step s = .next { s with turns := s.turns.tail }) ∧
  (∀ (s : State) (ts : List Turn) (r : Response) (rest : List Response), s.turns = .take :: ts →
    s.pending = r :: rest →
      step s = .next { s with turns := ts, pending := rest, delivered := s.delivered ++ [r] }) ∧
  (∃ n, ∀ s : State, n < s.pending.length → cmdReady s = false) ∧
  ∀ s : State, s.pending = [] → cmdReady s = true

/-- 30_encoding.md R51, R52: unless reset intervenes, a step either accepts the first offered command and puts exactly one
response behind the earlier ones, or accepts none and adds no response; delivered responses stay delivered. -/
def Obligations.OneResponsePerCommandInOrder : Prop :=
  ∀ s t : State, step s = .next t → (∀ ts, s.turns ≠ .reset :: ts) →
    ((t.answers = s.answers ∧ t.offered = s.offered) ∨
      ∃ c r, s.offered = c :: t.offered ∧ t.answers = s.answers ++ [r] ∧ t.delivered = s.delivered) ∧
    s.delivered <+: t.delivered

/-- 60_exceptions.md R130, R132: no state stops the machine: every step answers a next state. -/
def Obligations.NoStateStopsTheCore : Prop :=
  ∀ s : State, ∃ t, step s = .next t

/-- 30_encoding.md R51, R61: a step of a ready core runs the command it decodes: `exec` of the decoded instruction on the
state with that command taken from the channel and the turn used up. -/
def Obligations.StepRunsDecodedCommand : Prop :=
  ∀ (s : State) (c : Command) (rest : List Command) (i : Instr), CommandMovesNext s → s.offered = c :: rest →
    cmdReady s = true → decode c = .ok i →
      i.wellFormed = true ∧ step s = exec i { s with offered := rest, turns := s.turns.tail }

/-- 60_exceptions.md R132: a step of a ready core on an illegal command word has that command's effect and no other, and
the command is taken from the channel. -/
def Obligations.StepAnswersIllegalCommand : Prop :=
  ∀ (s : State) (c : Command) (rest : List Command) (e : Illegal), CommandMovesNext s → s.offered = c :: rest →
    cmdReady s = true → decode c = .error e →
      ∃ t, step s = .next t ∧ IllegalEffect e { s with offered := rest, turns := s.turns.tail } t

/-! ### Invariants -/

/-- The power-on state meets the invariants. -/
def Obligations.PowerOnStateMeetsInvariants : Prop :=
  State.reset.Inv ∧ State.reset.StatusRecords

/-- 10_state.md R14, 30_encoding.md R52, 70_reset_and_hazards.md R159: every step keeps `STATUS` legal, every answer with a
non-zero status without data, and the pending responses bounded (the bound is notes/assumptions/3.md). -/
def Obligations.EveryStepKeepsInvariant : Prop :=
  ∀ s t : State, s.Inv → step s = .next t → t.Inv

/-- 10_state.md R14, 60_exceptions.md R134: every step keeps `ERR` saying whether some response of the run had a non-zero
status, and `ECODE` holding the first such status. -/
def Obligations.EveryStepKeepsErrorRecord : Prop :=
  ∀ s t : State, s.StatusRecords → step s = .next t → t.StatusRecords

/-- 60_exceptions.md R134: without a reset, `ERR` stays set once set and `ECODE` then keeps its value; `ERR` becomes set
only in a step that takes an illegal command from the channel, whose code `ECODE` takes. -/
def Obligations.ErrorRecordIsSticky : Prop :=
  ∀ s t : State, step s = .next t → (∀ ts, s.turns ≠ .reset :: ts) →
    (s.status.ERR = true → t.status.ERR = true ∧ t.status.ECODE = s.status.ECODE) ∧
    (s.status.ERR = false → t.status.ERR = true →
      ∃ c rest e, s.offered = c :: rest ∧ t.offered = rest ∧ decode c = .error e ∧
        t.status.ECODE = rspCode (illegalStatus e))

/-- 10_state.md R14, row `INITD`: without a reset, `INITD` stays set, and it becomes set only in a step that takes
`INIT` from the channel. -/
def Obligations.InitdIsSetByInitOnly : Prop :=
  ∀ s t : State, step s = .next t → (∀ ts, s.turns ≠ .reset :: ts) →
    (s.status.INITD = true → t.status.INITD = true) ∧
    (s.status.INITD = false → t.status.INITD = true →
      ∃ c rest, s.offered = c :: rest ∧ t.offered = rest ∧ decode c = .ok .init)

/-! ### Encoding -/

/-- 30_encoding.md R59, R63, sample words of every family and of every cause of rejection. -/
def Obligations.SampleWordsDecode : Prop :=
  decode ⟨0x1000, 0xFFFFFFFF⟩ = .ok .init ∧ decode ⟨0x2000, 0⟩ = .ok .enc ∧ decode ⟨0x3000, 0⟩ = .ok .rdstat ∧
  decode ⟨0x4000, 0x4F727068⟩ = .ok (.wrl 0x4F727068) ∧ decode ⟨0x9000, 0⟩ = .ok .rdr ∧
  decode ⟨0xA003, 0xDEADBEEF⟩ = .ok (.wrp 3 0xDEADBEEF) ∧ decode ⟨0xC011, 0⟩ = .ok (.rdp 17) ∧
  decode ⟨0xD2A5, 0x01234567⟩ = .ok (.wrs 2 165 0x01234567) ∧ decode ⟨0xE3FF, 0⟩ = .ok (.rds 3 255) ∧
  decode ⟨0xF012, 0⟩ = .error .illOp ∧ decode ⟨0xA112, 0⟩ = .error .illFld ∧ decode ⟨0xA012, 0⟩ = .error .illIdx

/-- 30_encoding.md R59, R61, R63: decoding what `encode` writes gives the instruction back, for all fifteen commands and
every operand the encoding admits. -/
def Obligations.DecodeOfEncodeIsIdentity : Prop :=
  ∀ i : Instr, i.wellFormed = true → decode (encode i) = .ok i

/-- 30_encoding.md R59, R61 (92_eei_decisions.md D6: every legal command has exactly one encoding): what decodes to an
instruction has that instruction's command word, and its data word where the command takes data. -/
def Obligations.LegalCommandHasOneEncoding : Prop :=
  ∀ (c : Command) (i : Instr), decode c = .ok i →
    i.wellFormed = true ∧ (encode i).cw = c.cw ∧ (i.takesData = true → (encode i).wdata = c.wdata)

/-- 30_encoding.md R61, R60 and 60_exceptions.md R131, R133: which command words are rejected, and as what, by the value
of the word alone. -/
def Obligations.RejectedWordsAndTheirCauses : Prop :=
  ∀ c : Command,
    (decode c = .error .illOp ↔ 0xF000 ≤ c.cw.toNat) ∧
    (decode c = .error .illFld ↔
      (c.cw.toNat < 0xA000 ∧ c.cw.toNat % 0x1000 ≠ 0) ∨
      (0xA000 ≤ c.cw.toNat ∧ c.cw.toNat < 0xD000 ∧ 32 ≤ c.cw.toNat % 0x1000) ∨
      (0xD000 ≤ c.cw.toNat ∧ c.cw.toNat < 0xF000 ∧ 1024 ≤ c.cw.toNat % 0x1000)) ∧
    (decode c = .error .illIdx ↔
      0xA000 ≤ c.cw.toNat ∧ c.cw.toNat < 0xD000 ∧ 18 ≤ c.cw.toNat % 0x1000 ∧ c.cw.toNat % 0x1000 < 32)

/-- 30_encoding.md R59: the rows of the map are disjoint, and a word decodes to an instruction exactly when it is a word
of that instruction's row. -/
def Obligations.DecoderAgreesWithOpcodeMap : Prop :=
  (opcodeRows.Pairwise fun p q => ∀ cw, ¬(rowHas p cw = true ∧ rowHas q cw = true)) ∧
  ∀ (c : Command) (p : OpcodeRow), p ∈ opcodeRows →
    (rowHas p c.cw = true ↔ ∃ i, decode c = .ok i ∧ i.mnemonic = p.mnemonic)

/-- 30_encoding.md R58: the eight commands that take no data ignore `wdata` entirely, and no command's legality depends on
it. -/
def Obligations.UnusedDataWordIsIgnored : Prop :=
  ∀ (cw : CmdWord) (v w : Word) (s : State),
    (∀ i, decode ⟨cw, v⟩ = .ok i → i.takesData = false → runCommand ⟨cw, w⟩ s = runCommand ⟨cw, v⟩ s) ∧
    ∀ e, decode ⟨cw, v⟩ = .error e → runCommand ⟨cw, w⟩ s = runCommand ⟨cw, v⟩ s

/-! ### Illegal commands -/

/-- 60_exceptions.md R132: an illegal command writes the error record and its answer and nothing else, and every later legal
command works as if it had not been issued, but for what `RDSTAT` shows. -/
def Obligations.IllegalCommandHasNoOtherEffect : Prop :=
  (∀ (c : Command) (e : Illegal) (s : State), decode c = .error e →
    ∃ t, runCommand c s = .next t ∧ IllegalEffect e s t) ∧
  ∀ (e : Illegal) (i : Instr) (s t : State), i.wellFormed = true → exec i s = .next t →
    ∃ u, exec i (takeIllegal e s) = .next u ∧ SameTables t u ∧ u.L = t.L ∧ u.R = t.R ∧
      u.status.INITD = t.status.INITD ∧ (i ≠ .rdstat → u.pending.getLast? = t.pending.getLast?)

/-- The three P commands as terms with an index of 18 to 31, which no command word decodes to: the model answers them
`ILLIDX` (its choice, notes/assumptions/5.md; 20_memory.md section 1). -/
def Obligations.TermWithNoPWordIsIllegal : Prop :=
  ∀ (i : PIdx) (v : Word) (s : State), 18 ≤ i.toNat →
    (∃ t, exec (.wrp i v) s = .next t ∧ IllegalEffect .illIdx s t) ∧
    (∃ t, exec (.xorp i v) s = .next t ∧ IllegalEffect .illIdx s t) ∧
    (∃ t, exec (.rdp i) s = .next t ∧ IllegalEffect .illIdx s t)

/-! ### Control commands -/

/-- 44_control.md R120. -/
def Obligations.NopDoesNothing : Prop :=
  ∀ s : State,
    (∃ t, exec .nop s = .next t ∧ SameData s t ∧ Answered s t ⟨.ok, 0⟩) ∧
    (∀ w, runCommand ⟨0x0000, w⟩ s = exec .nop s) ∧ RejectsArgument 0x0 s

/-- 44_control.md R121: the fields of `STATUS` at their bits, the reserved bits zero, nothing changed, and from a legal
`STATUS` one of eight values, each of which some legal `STATUS` gives. -/
def Obligations.RdstatReadsStatus : Prop :=
  ∀ s : State,
    (∃ t rd, exec .rdstat s = .next t ∧ SameData s t ∧ Answered s t ⟨.ok, rd⟩ ∧
      rd.getLsbD 0 = s.status.INITD ∧ rd.getLsbD 1 = s.status.ERR ∧ rd.extractLsb' 2 2 = s.status.ECODE ∧
      rd.extractLsb' 4 28 = 0 ∧
      (s.status.Legal → rd ∈ ([0x0, 0x1, 0x6, 0xA, 0xE, 0x7, 0xB, 0xF] : List Word))) ∧
    (∀ w, runCommand ⟨0x3000, w⟩ s = exec .rdstat s) ∧ RejectsArgument 0x3 s ∧
    ∀ rd ∈ ([0x0, 0x1, 0x6, 0xA, 0xE, 0x7, 0xB, 0xF] : List Word), ∃ st : Status, st.Legal ∧ statusWord st = rd

/-! ### `INIT` and `ENC` -/

/-- 40_init.md R70. -/
def Obligations.InitLoadsConstants : Prop :=
  ∀ s : State,
    (∃ t, exec .init s = .next t ∧ (∀ i, readP t.P i = readP piP i) ∧ (∀ b j, readS t.S b j = readS piS b j) ∧
      readP t.P 0 = 0x243F6A88 ∧ readS t.S 3 255 = 0x3AC372E6 ∧
      t.status.INITD = true ∧ t.status.ERR = s.status.ERR ∧ t.status.ECODE = s.status.ECODE ∧
      t.L = s.L ∧ t.R = s.R ∧ Answered s t ⟨.ok, 0⟩) ∧
    (∀ w, runCommand ⟨0x1000, w⟩ s = exec .init s) ∧ RejectsArgument 0x1 s

/-- 40_init.md section 2, the table of transcription checks: the XOR and the sum modulo 2^32 of the words of each table and
of all 1042 (the constants are the spec's general knowledge, notes/assumptions/7.md). -/
def Obligations.InitialConstantsMeetTheChecks : Prop :=
  let x (l : List Word) : Word := l.foldl (· ^^^ ·) 0
  let a (l : List Word) : Word := l.foldl (· + ·) 0
  (x piP.toList = 0xB73AD7EA ∧ a piP.toList = 0x8E4D14CC) ∧
  (x piS[0].toList = 0x4EB4DB7F ∧ a piS[0].toList = 0x4B745115) ∧
  (x piS[1].toList = 0xC727E122 ∧ a piS[1].toList = 0x72FF37B2) ∧
  (x piS[2].toList = 0x462A5D01 ∧ a piS[2].toList = 0x2AC02B91) ∧
  (x piS[3].toList = 0x1779E2BC ∧ a piS[3].toList = 0xF43E3A88) ∧
  x (piP.toList ++ piS.toList.flatMap Vector.toList) = 0x6FFA520A ∧
  a (piP.toList ++ piS.toList.flatMap Vector.toList) = 0x6BBF03AC

/-- 41_encrypt.md R83: `ENC` replaces `L` and `R` by `EncryptBlock` of them on the current tables, whatever those and
`STATUS` hold, and writes nothing else. -/
def Obligations.EncEncryptsInPlace : Prop :=
  ∀ s : State,
    (∃ t, exec .enc s = .next t ∧ (t.L, t.R) = encryptBlock s.P s.S (s.L, s.R) ∧ SameTables s t ∧
      t.status = s.status ∧ Answered s t ⟨.ok, 0⟩) ∧
    (∀ w, runCommand ⟨0x2000, w⟩ s = exec .enc s) ∧ RejectsArgument 0x2 s

/-- 41_encrypt.md section 1, the formula of F with both additions modulo 2^32, on the values of the words and of the bytes
(the spec marks the byte assignment and the order of operations as general knowledge, notes/assumptions/7.md). -/
def Obligations.RoundFunctionValue : Prop :=
  ∀ (S : SBoxes) (x : Word),
    (roundF S x).toNat =
      (((((readS S 0 (Fin.ofNat 256 (x.toNat / 2 ^ 24))).toNat +
            (readS S 1 (Fin.ofNat 256 (x.toNat / 2 ^ 16))).toNat) % 2 ^ 32) ^^^
          (readS S 2 (Fin.ofNat 256 (x.toNat / 2 ^ 8))).toNat) +
        (readS S 3 (Fin.ofNat 256 x.toNat)).toNat) % 2 ^ 32

/-- 41_encrypt.md section 2: `EncryptBlock` is sixteen rounds, each keying the left half with its own P word, mixing F of
the keyed half into the other and exchanging, then the last exchange undone, `P[16]` into the right half and `P[17]` into
the left (the spec marks the exact structure as general knowledge, notes/assumptions/7.md). -/
def Obligations.EncryptBlockIsSixteenRounds : Prop :=
  ∀ (P : PArray) (S : SBoxes) (l r : Word),
    ∃ x y : Nat → Word, x 0 = l ∧ y 0 = r ∧
      (∀ (i : Nat) (h : i < 16),
        y (i + 1) = x i ^^^ readP P ⟨i, by omega⟩ ∧ x (i + 1) = y i ^^^ roundF S (x i ^^^ readP P ⟨i, by omega⟩)) ∧
      encryptBlock P S (l, r) = (y 16 ^^^ readP P 17, x 16 ^^^ readP P 16)

/-- 41_encrypt.md section 2, the folded form, which the spec derives: with `xl n`, `xr n` the two halves after the
assignment that uses `P[n]`, every step from 1 to 16 is `half ^= F(other half) ^ P[n]`, odd steps on `xr`, even ones on
`xl`, and the halves so reached give `EncryptBlock`, in both of the model's forms. -/
def Obligations.FoldedFormIsTheSameFunction : Prop :=
  ∀ (P : PArray) (S : SBoxes) (l r : Word) (xl xr : Nat → Word),
    xl 0 = l ^^^ readP P 0 → xr 0 = r →
    (∀ (n : Nat) (h : n < 16), n % 2 = 0 →
      xr (n + 1) = xr n ^^^ (roundF S (xl n) ^^^ readP P ⟨n + 1, by omega⟩) ∧ xl (n + 1) = xl n) →
    (∀ (n : Nat) (h : n < 16), n % 2 = 1 →
      xl (n + 1) = xl n ^^^ (roundF S (xr n) ^^^ readP P ⟨n + 1, by omega⟩) ∧ xr (n + 1) = xr n) →
      encryptBlock P S (l, r) = (xr 16 ^^^ readP P 17, xl 16) ∧
      encryptBlockFolded P S (l, r) = (xr 16 ^^^ readP P 17, xl 16)

/-- 41_encrypt.md section 3, property (c), which the spec derives: for any tables whatever, `EncryptBlock` is a bijection on
blocks. -/
def Obligations.EncryptBlockIsBijective : Prop :=
  ∀ (P : PArray) (S : SBoxes), Function.Bijective (encryptBlock P S)

/-- 41_encrypt.md section 3, on decryption, which the spec derives: with the P words in reverse order the same network undoes
the encryption. -/
def Obligations.ReversedSubkeysUndoEncryption : Prop :=
  ∀ (P Q : PArray) (S : SBoxes), (∀ k : Fin 18, readP Q k = readP P (Fin.rev k)) →
    ∀ lr : Word × Word, encryptBlock Q S (encryptBlock P S lr) = lr

/-- 41_encrypt.md section 3, corner cases of `ENC`, which the spec derives from the folded form: with all S words zero each
half is the other one with nine P words mixed in; with all P words zero too the halves are exchanged. -/
def Obligations.EncWithZeroSBoxes : Prop :=
  ∀ s : State, (∀ b j, readS s.S b j = 0) →
    ∃ t, exec .enc s = .next t ∧
      t.L = s.R ^^^ readP s.P 1 ^^^ readP s.P 3 ^^^ readP s.P 5 ^^^ readP s.P 7 ^^^ readP s.P 9 ^^^ readP s.P 11 ^^^
        readP s.P 13 ^^^ readP s.P 15 ^^^ readP s.P 17 ∧
      t.R = s.L ^^^ readP s.P 0 ^^^ readP s.P 2 ^^^ readP s.P 4 ^^^ readP s.P 6 ^^^ readP s.P 8 ^^^ readP s.P 10 ^^^
        readP s.P 12 ^^^ readP s.P 14 ^^^ readP s.P 16 ∧
      ((∀ k, readP s.P k = 0) → t.L = s.R ∧ t.R = s.L)

/-! ### Block register commands -/

/-- 42_block_regs.md R100. -/
def Obligations.WrlWritesLeftHalf : Prop :=
  ∀ (v : Word) (s : State),
    (∃ t, exec (.wrl v) s = .next t ∧ t.L = v ∧ t.R = s.R ∧ t.status = s.status ∧ SameTables s t ∧
      Answered s t ⟨.ok, 0⟩) ∧
    runCommand ⟨0x4000, v⟩ s = exec (.wrl v) s ∧ RejectsArgument 0x4 s

/-- 42_block_regs.md R101. -/
def Obligations.WrrWritesRightHalf : Prop :=
  ∀ (v : Word) (s : State),
    (∃ t, exec (.wrr v) s = .next t ∧ t.R = v ∧ t.L = s.L ∧ t.status = s.status ∧ SameTables s t ∧
      Answered s t ⟨.ok, 0⟩) ∧
    runCommand ⟨0x5000, v⟩ s = exec (.wrr v) s ∧ RejectsArgument 0x5 s

/-- 42_block_regs.md R102. -/
def Obligations.XorlMixesIntoLeftHalf : Prop :=
  ∀ (v : Word) (s : State),
    (∃ t, exec (.xorl v) s = .next t ∧ t.L = s.L ^^^ v ∧ t.R = s.R ∧ t.status = s.status ∧ SameTables s t ∧
      Answered s t ⟨.ok, 0⟩) ∧
    runCommand ⟨0x6000, v⟩ s = exec (.xorl v) s ∧ RejectsArgument 0x6 s

/-- 42_block_regs.md R103. -/
def Obligations.XorrMixesIntoRightHalf : Prop :=
  ∀ (v : Word) (s : State),
    (∃ t, exec (.xorr v) s = .next t ∧ t.R = s.R ^^^ v ∧ t.L = s.L ∧ t.status = s.status ∧ SameTables s t ∧
      Answered s t ⟨.ok, 0⟩) ∧
    runCommand ⟨0x7000, v⟩ s = exec (.xorr v) s ∧ RejectsArgument 0x7 s

/-- 42_block_regs.md R104. -/
def Obligations.RdlReadsLeftHalf : Prop :=
  ∀ s : State,
    (∃ t, exec .rdl s = .next t ∧ SameData s t ∧ Answered s t ⟨.ok, s.L⟩) ∧
    (∀ w, runCommand ⟨0x8000, w⟩ s = exec .rdl s) ∧ RejectsArgument 0x8 s

/-- 42_block_regs.md R105. -/
def Obligations.RdrReadsRightHalf : Prop :=
  ∀ s : State,
    (∃ t, exec .rdr s = .next t ∧ SameData s t ∧ Answered s t ⟨.ok, s.R⟩) ∧
    (∀ w, runCommand ⟨0x9000, w⟩ s = exec .rdr s) ∧ RejectsArgument 0x9 s

/-! ### Table access commands -/

/-- 43_table_access.md R110. -/
def Obligations.WrpReplacesOnePWord : Prop :=
  ∀ (v : Word) (s : State),
    (∀ (i : PIdx) (h : i.toNat < 18),
      (∃ t, exec (.wrp i v) s = .next t ∧ readP t.P ⟨i.toNat, h⟩ = v ∧
        (∀ k : Fin 18, k.val ≠ i.toNat → readP t.P k = readP s.P k) ∧ (∀ b j, readS t.S b j = readS s.S b j) ∧
        t.L = s.L ∧ t.R = s.R ∧ t.status = s.status ∧ Answered s t ⟨.ok, 0⟩) ∧
      runCommand ⟨BitVec.ofNat 16 (0xA000 + i.toNat), v⟩ s = exec (.wrp i v) s) ∧
    RejectsPWords 0xA s

/-- 43_table_access.md R111. -/
def Obligations.XorpMixesIntoOnePWord : Prop :=
  ∀ (v : Word) (s : State),
    (∀ (i : PIdx) (h : i.toNat < 18),
      (∃ t, exec (.xorp i v) s = .next t ∧ readP t.P ⟨i.toNat, h⟩ = readP s.P ⟨i.toNat, h⟩ ^^^ v ∧
        (∀ k : Fin 18, k.val ≠ i.toNat → readP t.P k = readP s.P k) ∧ (∀ b j, readS t.S b j = readS s.S b j) ∧
        t.L = s.L ∧ t.R = s.R ∧ t.status = s.status ∧ Answered s t ⟨.ok, 0⟩) ∧
      runCommand ⟨BitVec.ofNat 16 (0xB000 + i.toNat), v⟩ s = exec (.xorp i v) s) ∧
    RejectsPWords 0xB s

/-- 43_table_access.md R112. -/
def Obligations.RdpReadsOnePWord : Prop :=
  ∀ s : State,
    (∀ (i : PIdx) (h : i.toNat < 18),
      (∃ t, exec (.rdp i) s = .next t ∧ SameData s t ∧ Answered s t ⟨.ok, readP s.P ⟨i.toNat, h⟩⟩) ∧
      ∀ w, runCommand ⟨BitVec.ofNat 16 (0xC000 + i.toNat), w⟩ s = exec (.rdp i) s) ∧
    RejectsPWords 0xC s

/-- 43_table_access.md R113. -/
def Obligations.WrsReplacesOneSWord : Prop :=
  ∀ (v : Word) (s : State),
    (∀ (b : BoxIdx) (j : EntIdx),
      (∃ t, exec (.wrs b j v) s = .next t ∧ readS t.S b.toFin j.toFin = v ∧
        (∀ (c : Fin 4) (k : Fin 256), c.val ≠ b.toNat ∨ k.val ≠ j.toNat → readS t.S c k = readS s.S c k) ∧
        (∀ k, readP t.P k = readP s.P k) ∧ t.L = s.L ∧ t.R = s.R ∧ t.status = s.status ∧ Answered s t ⟨.ok, 0⟩) ∧
      runCommand ⟨BitVec.ofNat 16 (0xD000 + 256 * b.toNat + j.toNat), v⟩ s = exec (.wrs b j v) s) ∧
    RejectsSWords 0xD s

/-- 43_table_access.md R114. -/
def Obligations.RdsReadsOneSWord : Prop :=
  ∀ s : State,
    (∀ (b : BoxIdx) (j : EntIdx),
      (∃ t, exec (.rds b j) s = .next t ∧ SameData s t ∧ Answered s t ⟨.ok, readS s.S b.toFin j.toFin⟩) ∧
      ∀ w, runCommand ⟨BitVec.ofNat 16 (0xE000 + 256 * b.toNat + j.toNat), w⟩ s = exec (.rds b j) s) ∧
    RejectsSWords 0xE s

/-! ### Rules about the whole command set -/

/-- 10_state.md section 7, the access matrix, which the spec derives: which commands write which state. -/
def Obligations.OnlyNamedCommandsWriteState : Prop :=
  ∀ (i : Instr) (s t : State), i.wellFormed = true → exec i s = .next t →
    (∀ k : Fin 18, readP t.P k ≠ readP s.P k →
      i = .init ∨ ∃ v, i = .wrp (BitVec.ofNat 5 k.val) v ∨ i = .xorp (BitVec.ofNat 5 k.val) v) ∧
    (∀ (b : Fin 4) (j : Fin 256), readS t.S b j ≠ readS s.S b j →
      i = .init ∨ ∃ v, i = .wrs (BitVec.ofNat 2 b.val) (BitVec.ofNat 8 j.val) v) ∧
    (t.L ≠ s.L → i = .enc ∨ ∃ v, i = .wrl v ∨ i = .xorl v) ∧
    (t.R ≠ s.R → i = .enc ∨ ∃ v, i = .wrr v ∨ i = .xorr v) ∧
    (t.status.INITD ≠ s.status.INITD → i = .init) ∧
    t.status.ERR = s.status.ERR ∧ t.status.ECODE = s.status.ECODE

/-- 10_state.md R15 and 41_encrypt.md R83: no command's data result depends on `STATUS`; but for what `RDSTAT` answers, a
command does the same to the tables and the block and answers the same whatever `STATUS` holds. -/
def Obligations.DataNeverDependsOnStatus : Prop :=
  ∀ (i : Instr) (s t : State) (st : Status), i.wellFormed = true → exec i s = .next t →
    ∃ u, exec i { s with status := st } = .next u ∧ SameTables t u ∧ u.L = t.L ∧ u.R = t.R ∧
      (i ≠ .rdstat → u.pending = t.pending)

/-- 20_memory.md R36: the five reads change no state, and a repeated read answers the same. -/
def Obligations.ReadsAreRepeatable : Prop :=
  ∀ (i : Instr) (s : State), i.wellFormed = true →
    (i = .rdstat ∨ i = .rdl ∨ i = .rdr ∨ (∃ k, i = .rdp k) ∨ ∃ b j, i = .rds b j) →
      ∃ r t u, exec i s = .next t ∧ SameData s t ∧ Answered s t r ∧ exec i t = .next u ∧ SameData s u ∧ Answered t u r

/-- 20_memory.md R36: repeating `WRP`, `WRS`, `WRL` or `WRR` leaves the state of the first; repeating `XORP`, `XORL` or
`XORR` restores the state before the first. -/
def Obligations.WritesRepeatAndXorsCancel : Prop :=
  ∀ (i : Instr) (s : State), i.wellFormed = true →
    (((∃ v, i = .wrl v) ∨ (∃ v, i = .wrr v) ∨ (∃ k v, i = .wrp k v) ∨ ∃ b j v, i = .wrs b j v) →
      ∃ t u, exec i s = .next t ∧ exec i t = .next u ∧ SameData t u) ∧
    (((∃ v, i = .xorl v) ∨ (∃ v, i = .xorr v) ∨ ∃ k v, i = .xorp k v) →
      ∃ t u, exec i s = .next t ∧ exec i t = .next u ∧ SameData s u)

/-- 43_table_access.md R111, corner cases: two `XORP` commands may be issued in either order. -/
def Obligations.XorpCommandsCommute : Prop :=
  ∀ (i j : PIdx) (v w : Word) (s : State), i.toNat < 18 → j.toNat < 18 →
    ∃ t, execAll [.xorp i v, .xorp j w] s = .next t ∧ execAll [.xorp j w, .xorp i v] s = .next t

/-- 20_memory.md R42: an `ENC` right after a table write uses the written word: it computes `EncryptBlock` on exactly the
tables that have the new word and are otherwise as before. -/
def Obligations.NextEncUsesWrittenTables : Prop :=
  ∀ (s : State) (P' : PArray) (S' : SBoxes),
    (∀ (i : PIdx) (h : i.toNat < 18) (v : Word), readP P' ⟨i.toNat, h⟩ = v →
      (∀ k : Fin 18, k.val ≠ i.toNat → readP P' k = readP s.P k) →
        ∃ t u, exec (.wrp i v) s = .next t ∧ exec .enc t = .next u ∧ (u.L, u.R) = encryptBlock P' s.S (s.L, s.R)) ∧
    (∀ (i : PIdx) (h : i.toNat < 18) (v : Word), readP P' ⟨i.toNat, h⟩ = readP s.P ⟨i.toNat, h⟩ ^^^ v →
      (∀ k : Fin 18, k.val ≠ i.toNat → readP P' k = readP s.P k) →
        ∃ t u, exec (.xorp i v) s = .next t ∧ exec .enc t = .next u ∧ (u.L, u.R) = encryptBlock P' s.S (s.L, s.R)) ∧
    (∀ (b : BoxIdx) (j : EntIdx) (v : Word), readS S' b.toFin j.toFin = v →
      (∀ (c : Fin 4) (k : Fin 256), c.val ≠ b.toNat ∨ k.val ≠ j.toNat → readS S' c k = readS s.S c k) →
        ∃ t u, exec (.wrs b j v) s = .next t ∧ exec .enc t = .next u ∧
          (u.L, u.R) = encryptBlock s.P S' (s.L, s.R)) ∧
    ∃ t u, exec .init s = .next t ∧ exec .enc t = .next u ∧ (u.L, u.R) = encryptBlock piP piS (s.L, s.R)

/-- 70_reset_and_hazards.md R154: `INIT`, `WRL` and `WRR`, the last two in either order, leave nothing of what the tables
and the block held: two states that agree on `STATUS` and the channels end equal. -/
def Obligations.StartUpLeavesNoUnspecifiedWord : Prop :=
  ∀ (s : State) (P' : PArray) (S' : SBoxes) (l' r' l r : Word),
    (∃ t, execAll [.init, .wrl l, .wrr r] s = .next t ∧
      execAll [.init, .wrl l, .wrr r] { s with P := P', S := S', L := l', R := r' } = .next t) ∧
    ∃ t, execAll [.init, .wrr r, .wrl l] s = .next t ∧
      execAll [.init, .wrr r, .wrl l] { s with P := P', S := S', L := l', R := r' } = .next t

/-! ### The linear order, pseudo-commands and runs -/

/-- 20_memory.md section 1: the linear order names every table word exactly where the rule puts it (the spec marks the order
as general knowledge, notes/assumptions/7.md). -/
def Obligations.LinearOrderNamesEveryWord : Prop :=
  ∀ s : State,
    (∀ i : Fin 18, linearWord s ⟨i.val, by omega⟩ = readP s.P i) ∧
    ∀ (b : Fin 4) (j : Fin 256), linearWord s ⟨18 + 256 * b.val + j.val, by omega⟩ = readS s.S b j

/-- 30_encoding.md R64, rows `WRT` and `RDT`: their expansions write and read the word at that linear position and no
other. -/
def Obligations.WrtAndRdtAccessOnePosition : Prop :=
  ∀ (k : Fin 1042) (v : Word) (s : State),
    (∃ t, execAll (expandPseudo (.wrt k v)) s = .next t ∧ linearWord t k = v ∧
      (∀ n : Fin 1042, n ≠ k → linearWord t n = linearWord s n) ∧ t.L = s.L ∧ t.R = s.R ∧ t.status = s.status ∧
      Answered s t ⟨.ok, 0⟩) ∧
    ∃ t, execAll (expandPseudo (.rdt k)) s = .next t ∧ SameData s t ∧ Answered s t ⟨.ok, linearWord s k⟩

/-- 30_encoding.md R64, row `ENCN`, with 41_encrypt.md R83: `n` encryptions in a row iterate `EncryptBlock` on the block and
leave the tables and `STATUS` alone. -/
def Obligations.EncnIteratesEncryptBlock : Prop :=
  ∀ (n : Nat) (s : State),
    ∃ t, execAll (expandPseudo (.encn n)) s = .next t ∧
      (t.L, t.R) = (encryptBlock s.P s.S)^[n] (s.L, s.R) ∧ SameTables s t ∧ t.status = s.status ∧
      t.pending = s.pending ++ List.replicate n ⟨.ok, 0⟩

/-- 30_encoding.md R51, R52: the machine, stepping with a host that offers encoded instructions and takes each response, is
the fold of the commands over the state: it ends with the fold's tables, block and `STATUS`, has delivered the fold's
responses in order, and has nothing left to do. How the host's moves are listed is notes/assumptions/2.md and 4.md. -/
def Obligations.RunIsTheFoldOfItsCommands : Prop :=
  ∀ (is : List Instr) (s : State), (∀ i ∈ is, i.wellFormed = true) → s.pending = [] →
    ∃ t u, execAll is s = .next u ∧ Host.Core.run Sys2Proof.core (2 * is.length) (s.withProgram is) = .next t ∧
      t.P = u.P ∧ t.S = u.S ∧ t.L = u.L ∧ t.R = u.R ∧ t.status = u.status ∧
      t.delivered = s.delivered ++ u.pending ∧ t.pending = [] ∧ t.offered = [] ∧ t.turns = []
end

