-- ==== Sys2Proof/Laws/Decode.lean ====
section
/-! SUPPORT. The fields of an encoded word, and what `decode` answers once the fields are known. -/

namespace Sys2Proof

theorem opField_toNat (cw : CmdWord) : (opField cw).toNat = cw.toNat / 4096 := by
  simp only [opField, BitVec.extractLsb'_toNat, Nat.shiftRight_eq_div_pow]
  have := cw.isLt
  omega

theorem zero12Field_toNat (cw : CmdWord) : (zero12Field cw).toNat = cw.toNat % 4096 := by
  simp [zero12Field, BitVec.extractLsb'_toNat]

theorem zero7Field_toNat (cw : CmdWord) : (zero7Field cw).toNat = cw.toNat / 32 % 128 := by
  simp [zero7Field, BitVec.extractLsb'_toNat, Nat.shiftRight_eq_div_pow]

theorem pidxField_toNat (cw : CmdWord) : (pidxField cw).toNat = cw.toNat % 32 := by
  simp [pidxField, BitVec.extractLsb'_toNat]

theorem zero2Field_toNat (cw : CmdWord) : (zero2Field cw).toNat = cw.toNat / 1024 % 4 := by
  simp [zero2Field, BitVec.extractLsb'_toNat, Nat.shiftRight_eq_div_pow]

theorem boxField_toNat (cw : CmdWord) : (boxField cw).toNat = cw.toNat / 256 % 4 := by
  simp [boxField, BitVec.extractLsb'_toNat, Nat.shiftRight_eq_div_pow]

theorem entField_toNat (cw : CmdWord) : (entField cw).toNat = cw.toNat % 256 := by
  simp [entField, BitVec.extractLsb'_toNat]

theorem formatP_toNat {op : Nat} (h : op < 16) (i : PIdx) : (formatP op i).toNat = 4096 * op + i.toNat := by
  have := i.isLt
  rw [formatP, BitVec.toNat_ofNat, Nat.mod_eq_of_lt (by omega)]

theorem formatS_toNat {op : Nat} (h : op < 16) (b : BoxIdx) (j : EntIdx) :
    (formatS op b j).toNat = 4096 * op + 256 * b.toNat + j.toNat := by
  have := b.isLt
  have := j.isLt
  rw [formatS, BitVec.toNat_ofNat, Nat.mod_eq_of_lt (by omega)]

/-- A format-N word with a zero argument field decodes to its N command. -/
theorem decode_formatN {op : Nat} (hop : op ≤ 9) (v : Word) :
    decode ⟨BitVec.ofNat 16 (4096 * op), v⟩ = nCommand op v := by
  have hn : (BitVec.ofNat 16 (4096 * op)).toNat = 4096 * op := by
    rw [BitVec.toNat_ofNat, Nat.mod_eq_of_lt (by omega)]
  have ho : (opField (BitVec.ofNat 16 (4096 * op))).toNat = op := by rw [opField_toNat, hn]; omega
  have hz : zero12Field (BitVec.ofNat 16 (4096 * op)) = 0 :=
    BitVec.eq_of_toNat_eq (by rw [zero12Field_toNat, hn]; simp)
  simp only [decode, ho, hz]
  rw [if_neg (by omega), if_pos (by omega), if_neg (by simp)]

/-- A legal format-P word decodes to its P command. -/
theorem decode_formatP {op : Nat} (hlo : 10 ≤ op) (hhi : op ≤ 12) {i : PIdx} (hi : i.toNat < 18) (v : Word) :
    decode ⟨formatP op i, v⟩ = pCommand op i v := by
  have hn := formatP_toNat (by omega : op < 16) i
  have hop : (opField (formatP op i)).toNat = op := by rw [opField_toNat, hn]; omega
  have hz : zero7Field (formatP op i) = 0 := BitVec.eq_of_toNat_eq (by rw [zero7Field_toNat, hn]; simp; omega)
  have hp : pidxField (formatP op i) = i := BitVec.eq_of_toNat_eq (by rw [pidxField_toNat, hn]; omega)
  simp only [decode, hop, hz, hp]
  rw [if_neg (by omega), if_neg (by omega), if_pos (by omega), if_neg (by simp), if_neg (by omega)]

/-- Every format-S word with zero reserved bits decodes to its S command. -/
theorem decode_formatS {op : Nat} (hlo : 13 ≤ op) (hhi : op ≤ 14) (b : BoxIdx) (j : EntIdx) (v : Word) :
    decode ⟨formatS op b j, v⟩ = sCommand op b j v := by
  have hb := b.isLt
  have hj := j.isLt
  have hn := formatS_toNat (by omega : op < 16) b j
  have hop : (opField (formatS op b j)).toNat = op := by rw [opField_toNat, hn]; omega
  have hz : zero2Field (formatS op b j) = 0 := BitVec.eq_of_toNat_eq (by rw [zero2Field_toNat, hn]; simp; omega)
  have hbox : boxField (formatS op b j) = b := BitVec.eq_of_toNat_eq (by rw [boxField_toNat, hn]; omega)
  have hent : entField (formatS op b j) = j := BitVec.eq_of_toNat_eq (by rw [entField_toNat, hn]; omega)
  simp only [decode, hop, hz, hbox, hent]
  rw [if_neg (by omega), if_neg (by omega), if_neg (by omega), if_neg (by simp)]

end Sys2Proof
end

