-- ==== Sys2Proof/Laws/State.lean ====
section
/-! SUPPORT. One lemma per field per update, true by rfl: no later proof unfolds a record update. -/

namespace Sys2Proof.Machine

@[simp] theorem State.setL_P (v : Word) (s : State) : (s.setL v).P = s.P := rfl
@[simp] theorem State.setL_S (v : Word) (s : State) : (s.setL v).S = s.S := rfl
@[simp] theorem State.setL_L (v : Word) (s : State) : (s.setL v).L = v := rfl
@[simp] theorem State.setL_R (v : Word) (s : State) : (s.setL v).R = s.R := rfl
@[simp] theorem State.setL_status (v : Word) (s : State) : (s.setL v).status = s.status := rfl
@[simp] theorem State.setL_offered (v : Word) (s : State) : (s.setL v).offered = s.offered := rfl
@[simp] theorem State.setL_pending (v : Word) (s : State) : (s.setL v).pending = s.pending := rfl
@[simp] theorem State.setL_delivered (v : Word) (s : State) : (s.setL v).delivered = s.delivered := rfl
@[simp] theorem State.setL_turns (v : Word) (s : State) : (s.setL v).turns = s.turns := rfl
@[simp] theorem State.setL_resets (v : Word) (s : State) : (s.setL v).resets = s.resets := rfl

@[simp] theorem State.setR_P (v : Word) (s : State) : (s.setR v).P = s.P := rfl
@[simp] theorem State.setR_S (v : Word) (s : State) : (s.setR v).S = s.S := rfl
@[simp] theorem State.setR_L (v : Word) (s : State) : (s.setR v).L = s.L := rfl
@[simp] theorem State.setR_R (v : Word) (s : State) : (s.setR v).R = v := rfl
@[simp] theorem State.setR_status (v : Word) (s : State) : (s.setR v).status = s.status := rfl
@[simp] theorem State.setR_offered (v : Word) (s : State) : (s.setR v).offered = s.offered := rfl
@[simp] theorem State.setR_pending (v : Word) (s : State) : (s.setR v).pending = s.pending := rfl
@[simp] theorem State.setR_delivered (v : Word) (s : State) : (s.setR v).delivered = s.delivered := rfl
@[simp] theorem State.setR_turns (v : Word) (s : State) : (s.setR v).turns = s.turns := rfl
@[simp] theorem State.setR_resets (v : Word) (s : State) : (s.setR v).resets = s.resets := rfl

@[simp] theorem State.setP_P (i : Fin 18) (v : Word) (s : State) : (s.setP i v).P = writeP s.P i v := rfl
@[simp] theorem State.setP_S (i : Fin 18) (v : Word) (s : State) : (s.setP i v).S = s.S := rfl
@[simp] theorem State.setP_L (i : Fin 18) (v : Word) (s : State) : (s.setP i v).L = s.L := rfl
@[simp] theorem State.setP_R (i : Fin 18) (v : Word) (s : State) : (s.setP i v).R = s.R := rfl
@[simp] theorem State.setP_status (i : Fin 18) (v : Word) (s : State) : (s.setP i v).status = s.status := rfl
@[simp] theorem State.setP_offered (i : Fin 18) (v : Word) (s : State) : (s.setP i v).offered = s.offered := rfl
@[simp] theorem State.setP_pending (i : Fin 18) (v : Word) (s : State) : (s.setP i v).pending = s.pending := rfl
@[simp] theorem State.setP_delivered (i : Fin 18) (v : Word) (s : State) : (s.setP i v).delivered = s.delivered := rfl
@[simp] theorem State.setP_turns (i : Fin 18) (v : Word) (s : State) : (s.setP i v).turns = s.turns := rfl
@[simp] theorem State.setP_resets (i : Fin 18) (v : Word) (s : State) : (s.setP i v).resets = s.resets := rfl

@[simp] theorem State.setS_P (b : Fin 4) (j : Fin 256) (v : Word) (s : State) : (s.setS b j v).P = s.P := rfl
@[simp] theorem State.setS_S (b : Fin 4) (j : Fin 256) (v : Word) (s : State) : (s.setS b j v).S = writeS s.S b j v := rfl
@[simp] theorem State.setS_L (b : Fin 4) (j : Fin 256) (v : Word) (s : State) : (s.setS b j v).L = s.L := rfl
@[simp] theorem State.setS_R (b : Fin 4) (j : Fin 256) (v : Word) (s : State) : (s.setS b j v).R = s.R := rfl
@[simp] theorem State.setS_status (b : Fin 4) (j : Fin 256) (v : Word) (s : State) : (s.setS b j v).status = s.status := rfl
@[simp] theorem State.setS_offered (b : Fin 4) (j : Fin 256) (v : Word) (s : State) : (s.setS b j v).offered = s.offered := rfl
@[simp] theorem State.setS_pending (b : Fin 4) (j : Fin 256) (v : Word) (s : State) : (s.setS b j v).pending = s.pending := rfl
@[simp] theorem State.setS_delivered (b : Fin 4) (j : Fin 256) (v : Word) (s : State) : (s.setS b j v).delivered = s.delivered := rfl
@[simp] theorem State.setS_turns (b : Fin 4) (j : Fin 256) (v : Word) (s : State) : (s.setS b j v).turns = s.turns := rfl
@[simp] theorem State.setS_resets (b : Fin 4) (j : Fin 256) (v : Word) (s : State) : (s.setS b j v).resets = s.resets := rfl

@[simp] theorem State.loadInit_P (s : State) : (s.loadInit).P = piP := rfl
@[simp] theorem State.loadInit_S (s : State) : (s.loadInit).S = piS := rfl
@[simp] theorem State.loadInit_L (s : State) : (s.loadInit).L = s.L := rfl
@[simp] theorem State.loadInit_R (s : State) : (s.loadInit).R = s.R := rfl
@[simp] theorem State.loadInit_status (s : State) : (s.loadInit).status = setInitd s.status := rfl
@[simp] theorem State.loadInit_offered (s : State) : (s.loadInit).offered = s.offered := rfl
@[simp] theorem State.loadInit_pending (s : State) : (s.loadInit).pending = s.pending := rfl
@[simp] theorem State.loadInit_delivered (s : State) : (s.loadInit).delivered = s.delivered := rfl
@[simp] theorem State.loadInit_turns (s : State) : (s.loadInit).turns = s.turns := rfl
@[simp] theorem State.loadInit_resets (s : State) : (s.loadInit).resets = s.resets := rfl

@[simp] theorem State.respond_P (st : RspStatus) (rd : Word) (s : State) : (s.respond st rd).P = s.P := rfl
@[simp] theorem State.respond_S (st : RspStatus) (rd : Word) (s : State) : (s.respond st rd).S = s.S := rfl
@[simp] theorem State.respond_L (st : RspStatus) (rd : Word) (s : State) : (s.respond st rd).L = s.L := rfl
@[simp] theorem State.respond_R (st : RspStatus) (rd : Word) (s : State) : (s.respond st rd).R = s.R := rfl
@[simp] theorem State.respond_status (st : RspStatus) (rd : Word) (s : State) : (s.respond st rd).status = s.status := rfl
@[simp] theorem State.respond_offered (st : RspStatus) (rd : Word) (s : State) : (s.respond st rd).offered = s.offered := rfl
@[simp] theorem State.respond_pending (st : RspStatus) (rd : Word) (s : State) : (s.respond st rd).pending = s.pending ++ [⟨st, rd⟩] := rfl
@[simp] theorem State.respond_delivered (st : RspStatus) (rd : Word) (s : State) : (s.respond st rd).delivered = s.delivered := rfl
@[simp] theorem State.respond_turns (st : RspStatus) (rd : Word) (s : State) : (s.respond st rd).turns = s.turns := rfl
@[simp] theorem State.respond_resets (st : RspStatus) (rd : Word) (s : State) : (s.respond st rd).resets = s.resets := rfl

@[simp] theorem State.record_P (e : Illegal) (s : State) : (s.record e).P = s.P := rfl
@[simp] theorem State.record_S (e : Illegal) (s : State) : (s.record e).S = s.S := rfl
@[simp] theorem State.record_L (e : Illegal) (s : State) : (s.record e).L = s.L := rfl
@[simp] theorem State.record_R (e : Illegal) (s : State) : (s.record e).R = s.R := rfl
@[simp] theorem State.record_status (e : Illegal) (s : State) : (s.record e).status = recordError (rspCode (illegalStatus e)) s.status := rfl
@[simp] theorem State.record_offered (e : Illegal) (s : State) : (s.record e).offered = s.offered := rfl
@[simp] theorem State.record_pending (e : Illegal) (s : State) : (s.record e).pending = s.pending := rfl
@[simp] theorem State.record_delivered (e : Illegal) (s : State) : (s.record e).delivered = s.delivered := rfl
@[simp] theorem State.record_turns (e : Illegal) (s : State) : (s.record e).turns = s.turns := rfl
@[simp] theorem State.record_resets (e : Illegal) (s : State) : (s.record e).resets = s.resets := rfl

@[simp] theorem State.encrypt_P (s : State) : (s.encrypt).P = s.P := rfl
@[simp] theorem State.encrypt_S (s : State) : (s.encrypt).S = s.S := rfl
@[simp] theorem State.encrypt_L (s : State) : (s.encrypt).L = (encryptBlock s.P s.S (s.L, s.R)).1 := rfl
@[simp] theorem State.encrypt_R (s : State) : (s.encrypt).R = (encryptBlock s.P s.S (s.L, s.R)).2 := rfl
@[simp] theorem State.encrypt_status (s : State) : (s.encrypt).status = s.status := rfl
@[simp] theorem State.encrypt_offered (s : State) : (s.encrypt).offered = s.offered := rfl
@[simp] theorem State.encrypt_pending (s : State) : (s.encrypt).pending = s.pending := rfl
@[simp] theorem State.encrypt_delivered (s : State) : (s.encrypt).delivered = s.delivered := rfl
@[simp] theorem State.encrypt_turns (s : State) : (s.encrypt).turns = s.turns := rfl
@[simp] theorem State.encrypt_resets (s : State) : (s.encrypt).resets = s.resets := rfl

/-! The state when a reset ends. -/

@[simp] theorem State.resetWith_L (draw : Nat → Word) (n : Nat) (off : List Command) (ts : List Turn) :
    (State.resetWith draw n off ts).L = draw 1042 := rfl
@[simp] theorem State.resetWith_R (draw : Nat → Word) (n : Nat) (off : List Command) (ts : List Turn) :
    (State.resetWith draw n off ts).R = draw 1043 := rfl
@[simp] theorem State.resetWith_status (draw : Nat → Word) (n : Nat) (off : List Command) (ts : List Turn) :
    (State.resetWith draw n off ts).status = ⟨false, false, 0⟩ := rfl
@[simp] theorem State.resetWith_offered (draw : Nat → Word) (n : Nat) (off : List Command) (ts : List Turn) :
    (State.resetWith draw n off ts).offered = off := rfl
@[simp] theorem State.resetWith_pending (draw : Nat → Word) (n : Nat) (off : List Command) (ts : List Turn) :
    (State.resetWith draw n off ts).pending = [] := rfl
@[simp] theorem State.resetWith_delivered (draw : Nat → Word) (n : Nat) (off : List Command) (ts : List Turn) :
    (State.resetWith draw n off ts).delivered = [] := rfl
@[simp] theorem State.resetWith_turns (draw : Nat → Word) (n : Nat) (off : List Command) (ts : List Turn) :
    (State.resetWith draw n off ts).turns = ts := rfl
@[simp] theorem State.resetWith_resets (draw : Nat → Word) (n : Nat) (off : List Command) (ts : List Turn) :
    (State.resetWith draw n off ts).resets = n := rfl

@[simp] theorem setInitd_INITD (st : Status) : (setInitd st).INITD = true := rfl
@[simp] theorem setInitd_ERR (st : Status) : (setInitd st).ERR = st.ERR := rfl
@[simp] theorem setInitd_ECODE (st : Status) : (setInitd st).ECODE = st.ECODE := rfl
@[simp] theorem recordError_INITD (c : BitVec 2) (st : Status) : (recordError c st).INITD = st.INITD := rfl
@[simp] theorem recordError_ERR (c : BitVec 2) (st : Status) : (recordError c st).ERR = true := rfl
@[simp] theorem recordError_ECODE (c : BitVec 2) (st : Status) :
    (recordError c st).ECODE = if st.ERR then st.ECODE else c := rfl

end Sys2Proof.Machine
end

