-- ==== Sys2Proof/Laws/Ops.lean ====
section
/-! SUPPORT. What each shared operation can do, said once; later proofs cite these and unfold nothing. -/

namespace Sys2Proof.Machine

/-! ### Tables: reading after writing, and equality word for word -/

@[simp] theorem readP_writeP_same (P : PArray) (i : Fin 18) (v : Word) : readP (writeP P i v) i = v := by
  simp [readP, writeP]

theorem readP_writeP_other (P : PArray) {i k : Fin 18} (v : Word) (h : k ≠ i) :
    readP (writeP P i v) k = readP P k := by
  simp [readP, writeP, Vector.getElem_set_ne, Fin.val_ne_of_ne h.symm]

@[simp] theorem readS_writeS_same (S : SBoxes) (b : Fin 4) (j : Fin 256) (v : Word) :
    readS (writeS S b j v) b j = v := by
  simp [readS, writeS]

theorem readS_writeS_other (S : SBoxes) {b c : Fin 4} {j k : Fin 256} (v : Word) (h : (c, k) ≠ (b, j)) :
    readS (writeS S b j v) c k = readS S c k := by
  by_cases hb : c = b
  · subst hb
    have hk : k ≠ j := fun e => h (by rw [e])
    simp [readS, writeS, Vector.getElem_set_ne, Fin.val_ne_of_ne hk.symm]
  · simp [readS, writeS, Vector.getElem_set_ne, Fin.val_ne_of_ne (Ne.symm hb)]

theorem pArray_ext {P Q : PArray} (h : ∀ k, readP P k = readP Q k) : P = Q :=
  Vector.ext fun i hi => h ⟨i, hi⟩

theorem sBoxes_ext {S T : SBoxes} (h : ∀ b j, readS S b j = readS T b j) : S = T :=
  Vector.ext fun b hb => Vector.ext fun j hj => h ⟨b, hb⟩ ⟨j, hj⟩

theorem sameTables_iff (s t : State) : SameTables s t ↔ t.P = s.P ∧ t.S = s.S :=
  ⟨fun h => ⟨pArray_ext h.1, sBoxes_ext h.2⟩, fun h => ⟨fun _ => by rw [h.1], fun _ _ => by rw [h.2]⟩⟩

/-! ### Operands -/

theorem pSelect_legal {i : PIdx} (h : i.toNat < 18) : pSelect i = some ⟨i.toNat, h⟩ := dif_pos h

theorem pSelect_illegal {i : PIdx} (h : 18 ≤ i.toNat) : pSelect i = none := dif_neg (by omega)

@[simp] theorem boxSelect_val (b : BoxIdx) : (boxSelect b).val = b.toNat := rfl

@[simp] theorem entSelect_val (j : EntIdx) : (entSelect j).val = j.toNat := rfl

/-! ### Status codes -/

@[simp] theorem rspCode_illegal_ne (e : Illegal) : rspCode (illegalStatus e) ≠ 0#2 := by cases e <;> decide

@[simp] theorem illegalStatus_ne_ok (e : Illegal) : illegalStatus e ≠ .ok := by cases e <;> decide

theorem rspCode_eq_zero_iff (st : RspStatus) : rspCode st = 0#2 ↔ st = .ok := by cases st <;> decide

/-! ### The illegal command and the cipher -/

/-- Everything an illegal command does. -/
theorem takeIllegal_effect (e : Illegal) (s : State) : IllegalEffect e s (takeIllegal e s) :=
  ⟨rfl, rfl, rfl, ⟨fun _ => rfl, fun _ _ => rfl⟩, rfl, rfl, rfl, rfl, rfl, rfl, rfl⟩

/-- One round on its two components (41_encrypt.md R81). -/
@[simp] theorem feistelRound_fst (P : PArray) (S : SBoxes) (lr : Word × Word) (i : Fin 18) :
    (feistelRound P S lr i).1 = lr.2 ^^^ roundF S (lr.1 ^^^ readP P i) := rfl

@[simp] theorem feistelRound_snd (P : PArray) (S : SBoxes) (lr : Word × Word) (i : Fin 18) :
    (feistelRound P S lr i).2 = lr.1 ^^^ readP P i := rfl

/-! ### The channels -/

theorem cmdReady_of_none_pending {s : State} (h : s.pending = []) : cmdReady s = true := by
  simp [cmdReady, h]

/-- A ready core has at most `Config.earlyAccepts` responses pending. -/
theorem cmdReady_bound {s : State} (h : cmdReady s = true) : s.pending.length ≤ Config.earlyAccepts := by
  unfold cmdReady at h
  split at h
  · simp [*]
  · simp_all only [decide_eq_true_eq, List.length_cons]; omega

/-- Everything an accepted command says of the state it is accepted in. -/
theorem acceptCommand_some {s s0 : State} {c : Command} (h : acceptCommand s = some (c, s0)) :
    ∃ rest, s.offered = c :: rest ∧ cmdReady s = true ∧ s0 = { s with offered := rest } := by
  unfold acceptCommand at h
  split at h
  · cases h
  · next c' rest hoff =>
    split at h
    · next hr => cases h; exact ⟨rest, hoff, hr, rfl⟩
    · cases h

theorem acceptCommand_ready {s : State} {c : Command} {rest : List Command} (ho : s.offered = c :: rest)
    (hr : cmdReady s = true) : acceptCommand s = some (c, { s with offered := rest }) := by
  simp [acceptCommand, ho, hr]

theorem acceptCommand_none {s : State} (h : acceptCommand s = none) : s.offered = [] ∨ cmdReady s = false := by
  unfold acceptCommand at h
  split at h
  · exact .inl ‹_›
  · split at h
    · cases h
    · exact .inr (by simp_all)

/-- Everything taking a response can do. -/
theorem takeResponse_cases (s : State) :
    (s.pending = [] ∧ takeResponse s = s) ∨
      ∃ r rest, s.pending = r :: rest ∧
        takeResponse s = { s with pending := rest, delivered := s.delivered ++ [r] } := by
  unfold takeResponse
  split
  · exact .inl ⟨‹_›, rfl⟩
  · next r rest h => exact .inr ⟨r, rest, h, rfl⟩

end Sys2Proof.Machine
end

