-- ==== Sys2Proof/Laws/PerInstr.lean ====
section
/-! SUPPORT. The family `RoundTrip`: what `encode` writes, `decode` reads back, one lemma per command. -/

namespace Sys2Proof.Laws.RoundTrip

/-- Decoding the encoding of a well-formed command gives the command. -/
def Statement (i : Instr) : Prop := i.wellFormed = true → decode (encode i) = .ok i

theorem nop : Statement .nop := fun _ => decode_formatN (op := 0) (by decide) 0
theorem init : Statement .init := fun _ => decode_formatN (op := 1) (by decide) 0
theorem enc : Statement .enc := fun _ => decode_formatN (op := 2) (by decide) 0
theorem rdstat : Statement .rdstat := fun _ => decode_formatN (op := 3) (by decide) 0
theorem wrl (v : Word) : Statement (.wrl v) := fun _ => decode_formatN (op := 4) (by decide) v
theorem wrr (v : Word) : Statement (.wrr v) := fun _ => decode_formatN (op := 5) (by decide) v
theorem xorl (v : Word) : Statement (.xorl v) := fun _ => decode_formatN (op := 6) (by decide) v
theorem xorr (v : Word) : Statement (.xorr v) := fun _ => decode_formatN (op := 7) (by decide) v
theorem rdl : Statement .rdl := fun _ => decode_formatN (op := 8) (by decide) 0
theorem rdr : Statement .rdr := fun _ => decode_formatN (op := 9) (by decide) 0
theorem wrp (i : PIdx) (v : Word) : Statement (.wrp i v) := fun h =>
  decode_formatP (by decide) (by decide) (of_decide_eq_true h) v
theorem xorp (i : PIdx) (v : Word) : Statement (.xorp i v) := fun h =>
  decode_formatP (by decide) (by decide) (of_decide_eq_true h) v
theorem rdp (i : PIdx) : Statement (.rdp i) := fun h =>
  decode_formatP (by decide) (by decide) (of_decide_eq_true h) 0
theorem wrs (b : BoxIdx) (j : EntIdx) (v : Word) : Statement (.wrs b j v) := fun _ =>
  decode_formatS (by decide) (by decide) b j v
theorem rds (b : BoxIdx) (j : EntIdx) : Statement (.rds b j) := fun _ =>
  decode_formatS (by decide) (by decide) b j 0

end Sys2Proof.Laws.RoundTrip
end

