-- ==== Sys2Proof/Laws/Step.lean ====
section
/-! SUPPORT. Inversion of one step: what a next state can be, said once. -/

namespace Sys2Proof.Machine

/-! ### The P commands on a legal and on an illegal index -/

theorem execWrp_legal {i : PIdx} (h : i.toNat < 18) (v : Word) (s : State) :
    execWrp i v s = .next ((s.setP ⟨i.toNat, h⟩ v).respond .ok 0) := by simp [execWrp, pSelect_legal h]

theorem execWrp_illegal {i : PIdx} (h : 18 ≤ i.toNat) (v : Word) (s : State) :
    execWrp i v s = .next (takeIllegal .illIdx s) := by simp [execWrp, pSelect_illegal h]

theorem execXorp_legal {i : PIdx} (h : i.toNat < 18) (v : Word) (s : State) :
    execXorp i v s = .next ((s.setP ⟨i.toNat, h⟩ (readP s.P ⟨i.toNat, h⟩ ^^^ v)).respond .ok 0) := by
  simp [execXorp, pSelect_legal h]

theorem execXorp_illegal {i : PIdx} (h : 18 ≤ i.toNat) (v : Word) (s : State) :
    execXorp i v s = .next (takeIllegal .illIdx s) := by simp [execXorp, pSelect_illegal h]

theorem execRdp_legal {i : PIdx} (h : i.toNat < 18) (s : State) :
    execRdp i s = .next (s.respond .ok (readP s.P ⟨i.toNat, h⟩)) := by simp [execRdp, pSelect_legal h]

theorem execRdp_illegal {i : PIdx} (h : 18 ≤ i.toNat) (s : State) :
    execRdp i s = .next (takeIllegal .illIdx s) := by simp [execRdp, pSelect_illegal h]

/-! ### What `exec` and a step can do -/

/-- The data part of a command that answered `OK`: which command may have changed what of `P`, `S`, `L`, `R` and
`STATUS`, and to what. -/
inductive DataMove (i : Instr) (s t : State) : Prop where
  | none (hd : t.P = s.P ∧ t.S = s.S ∧ t.L = s.L ∧ t.R = s.R) (hs : t.status = s.status)
  | left (hi : ∃ v, i = .wrl v ∨ i = .xorl v) (hd : t.P = s.P ∧ t.S = s.S ∧ t.R = s.R) (hs : t.status = s.status)
  | right (hi : ∃ v, i = .wrr v ∨ i = .xorr v) (hd : t.P = s.P ∧ t.S = s.S ∧ t.L = s.L) (hs : t.status = s.status)
  | enc (hi : i = .enc) (hd : t.P = s.P ∧ t.S = s.S) (hb : (t.L, t.R) = encryptBlock s.P s.S (s.L, s.R))
      (hs : t.status = s.status)
  | pWord (k : PIdx) (h : k.toNat < 18) (w : Word) (hi : ∃ v, i = .wrp k v ∨ i = .xorp k v)
      (hp : t.P = writeP s.P ⟨k.toNat, h⟩ w) (hd : t.S = s.S ∧ t.L = s.L ∧ t.R = s.R) (hs : t.status = s.status)
  | sWord (b : BoxIdx) (j : EntIdx) (v : Word) (hi : i = .wrs b j v)
      (hb : t.S = writeS s.S (boxSelect b) (entSelect j) v) (hd : t.P = s.P ∧ t.L = s.L ∧ t.R = s.R)
      (hs : t.status = s.status)
  | init (hi : i = .init) (hd : t.P = piP ∧ t.S = piS ∧ t.L = s.L ∧ t.R = s.R) (hs : t.status = setInitd s.status)

/-- Everything `exec` can do: one answer with status `OK` and one kind of data move, or, on a term whose P index selects
nothing, the illegal command `ILLIDX`. -/
theorem exec_cases (i : Instr) (s : State) :
    (∃ t rd, exec i s = .next t ∧ DataMove i s t ∧ Answered s t ⟨.ok, rd⟩) ∨
      (i.wellFormed = false ∧ exec i s = .next (takeIllegal .illIdx s)) := by
  have ans (u : State) (rd : Word) : Answered u (u.respond .ok rd) ⟨.ok, rd⟩ := ⟨rfl, rfl, rfl, rfl, rfl⟩
  cases i with
  | nop => exact .inl ⟨_, 0, rfl, .none ⟨rfl, rfl, rfl, rfl⟩ rfl, ans s 0⟩
  | init => exact .inl ⟨_, 0, rfl, .init rfl ⟨rfl, rfl, rfl, rfl⟩ rfl, ans s.loadInit 0⟩
  | enc => exact .inl ⟨_, 0, rfl, .enc rfl ⟨rfl, rfl⟩ rfl rfl, ans s.encrypt 0⟩
  | rdstat => exact .inl ⟨_, _, rfl, .none ⟨rfl, rfl, rfl, rfl⟩ rfl, ans s _⟩
  | wrl v => exact .inl ⟨_, 0, rfl, .left ⟨v, .inl rfl⟩ ⟨rfl, rfl, rfl⟩ rfl, ans (s.setL v) 0⟩
  | wrr v => exact .inl ⟨_, 0, rfl, .right ⟨v, .inl rfl⟩ ⟨rfl, rfl, rfl⟩ rfl, ans (s.setR v) 0⟩
  | xorl v => exact .inl ⟨_, 0, rfl, .left ⟨v, .inr rfl⟩ ⟨rfl, rfl, rfl⟩ rfl, ans (s.setL _) 0⟩
  | xorr v => exact .inl ⟨_, 0, rfl, .right ⟨v, .inr rfl⟩ ⟨rfl, rfl, rfl⟩ rfl, ans (s.setR _) 0⟩
  | rdl => exact .inl ⟨_, _, rfl, .none ⟨rfl, rfl, rfl, rfl⟩ rfl, ans s _⟩
  | rdr => exact .inl ⟨_, _, rfl, .none ⟨rfl, rfl, rfl, rfl⟩ rfl, ans s _⟩
  | wrp k v =>
    by_cases h : k.toNat < 18
    · exact .inl ⟨_, 0, execWrp_legal h v s, .pWord k h v ⟨v, .inl rfl⟩ rfl ⟨rfl, rfl, rfl⟩ rfl, ans (s.setP _ v) 0⟩
    · exact .inr ⟨decide_eq_false h, execWrp_illegal (by omega) v s⟩
  | xorp k v =>
    by_cases h : k.toNat < 18
    · exact .inl ⟨_, 0, execXorp_legal h v s, .pWord k h _ ⟨v, .inr rfl⟩ rfl ⟨rfl, rfl, rfl⟩ rfl, ans (s.setP _ _) 0⟩
    · exact .inr ⟨decide_eq_false h, execXorp_illegal (by omega) v s⟩
  | rdp k =>
    by_cases h : k.toNat < 18
    · exact .inl ⟨_, _, execRdp_legal h s, .none ⟨rfl, rfl, rfl, rfl⟩ rfl, ans s _⟩
    · exact .inr ⟨decide_eq_false h, execRdp_illegal (by omega) s⟩
  | wrs b j v => exact .inl ⟨_, 0, rfl, .sWord b j v rfl rfl ⟨rfl, rfl, rfl⟩ rfl, ans (s.setS _ _ v) 0⟩
  | rds b j => exact .inl ⟨_, _, rfl, .none ⟨rfl, rfl, rfl, rfl⟩ rfl, ans s _⟩

/-- Everything a step can do. -/
theorem step_cases (s : State) :
    (∃ c s0, acceptCommand { s with turns := s.turns.tail } = some (c, s0) ∧ step s = runCommand c s0 ∧
        ∀ ts, s.turns ≠ .reset :: ts ∧ s.turns ≠ .take :: ts) ∨
      (acceptCommand { s with turns := s.turns.tail } = none ∧ step s = .next { s with turns := s.turns.tail } ∧
        ∀ ts, s.turns ≠ .reset :: ts ∧ s.turns ≠ .take :: ts) ∨
      (∃ ts, s.turns = .take :: ts ∧ step s = .next (takeResponse { s with turns := ts })) ∨
      ∃ ts, s.turns = .reset :: ts ∧ step s = .next (hostReset { s with turns := ts }) := by
  obtain ⟨P, S, L, R, st, off, pend, del, turns, n⟩ := s
  have key : ∀ u : State, commandTurn u = match acceptCommand u with
      | some (c, s0) => runCommand c s0
      | none => .next u := fun _ => rfl
  match turns with
  | .take :: ts => exact .inr (.inr (.inl ⟨ts, rfl, rfl⟩))
  | .reset :: ts => exact .inr (.inr (.inr ⟨ts, rfl, rfl⟩))
  | [] =>
    cases h : acceptCommand ⟨P, S, L, R, st, off, pend, del, [], n⟩ with
    | none => exact .inr (.inl ⟨h, by simp [step, key, h], by simp⟩)
    | some p => exact .inl ⟨p.1, p.2, h, by simp [step, key, h], by simp⟩
  | .command :: ts =>
    cases h : acceptCommand ⟨P, S, L, R, st, off, pend, del, ts, n⟩ with
    | none => exact .inr (.inl ⟨h, by simp [step, key, h], by simp⟩)
    | some p => exact .inl ⟨p.1, p.2, h, by simp [step, key, h], by simp⟩

end Sys2Proof.Machine
end

