-- ==== Sys2Proof/Tests/Slice0.lean ====
section
/-! SUPPORT. Tests: ill-formed terms refused, every command decoded from a word written out from 30_encoding.md, vectors of
95_test_vectors.md one command at a time, and for each statement with hypotheses a case that meets them. Expected values
are the spec's; each test names the vector or rule they come from. -/

namespace Sys2Proof.Machine.Tests

set_option Elab.async false

/-! ### Small states -/

/-- All tables zero, nothing pending, nothing offered. -/
def zeroState (l r : Word) : State where
  P := Vector.replicate 18 0
  S := Vector.replicate 4 (Vector.replicate 256 0)
  L := l
  R := r
  status := ⟨false, false, 0⟩
  offered := []
  pending := []
  delivered := []
  turns := []
  resets := 1

/-- The tables `INIT` loads. -/
def initState (l r : Word) : State := { zeroState l r with P := piP, S := piS, status := ⟨true, false, 0⟩ }

/-- The zero state with these commands offered and these moves of the host to come. -/
def hostState (offered : List Command) (turns : List Turn) : State :=
  { zeroState 0 0 with offered := offered, turns := turns }

/-- The zero state with this `STATUS`. -/
def withStatus (st : Status) : State := { zeroState 0 0 with status := st }

/-- A core that is not ready, by one response too many. -/
def stalledState : State := { zeroState 0 0 with pending := List.replicate (Config.earlyAccepts + 1) ⟨.ok, 0⟩ }

def stateOf : Host.Outcome State Fault Refusal → Option State
  | .next s => some s
  | .fault _ => none
  | .refused _ => none

/-- The last response of the state a command leaves. -/
def answerOf (o : Host.Outcome State Fault Refusal) : Option Response := (stateOf o).bind fun s => s.pending.getLast?

/-- Both block halves of the state a command leaves. -/
def blockOf (o : Host.Outcome State Fault Refusal) : Option (Word × Word) := (stateOf o).map fun s => (s.L, s.R)

/-! ### Ill-formed terms (30_encoding.md R63: `i` must be 0 to 17) -/

theorem test_wellFormed_wrp : (Instr.wrp 18 0).wellFormed = false ∧ (Instr.wrp 17 0).wellFormed = true := by decide
theorem test_wellFormed_xorp : (Instr.xorp 18 0).wellFormed = false ∧ (Instr.xorp 17 0).wellFormed = true := by decide
theorem test_wellFormed_rdp : (Instr.rdp 31).wellFormed = false ∧ (Instr.rdp 17).wellFormed = true := by decide

/-! ### Words written out bit by bit from 30_encoding.md R54 to R59: op, then the fields -/

theorem test_decode_nop : decode ⟨0b0000000000000000, 7⟩ = .ok .nop := by decide
theorem test_decode_init : decode ⟨0b0001000000000000, 7⟩ = .ok .init := by decide
theorem test_decode_enc : decode ⟨0b0010000000000000, 7⟩ = .ok .enc := by decide
theorem test_decode_rdstat : decode ⟨0b0011000000000000, 7⟩ = .ok .rdstat := by decide
theorem test_decode_wrl : decode ⟨0b0100000000000000, 7⟩ = .ok (.wrl 7) := by decide
theorem test_decode_wrr : decode ⟨0b0101000000000000, 7⟩ = .ok (.wrr 7) := by decide
theorem test_decode_xorl : decode ⟨0b0110000000000000, 7⟩ = .ok (.xorl 7) := by decide
theorem test_decode_xorr : decode ⟨0b0111000000000000, 7⟩ = .ok (.xorr 7) := by decide
theorem test_decode_rdl : decode ⟨0b1000000000000000, 7⟩ = .ok .rdl := by decide
theorem test_decode_rdr : decode ⟨0b1001000000000000, 7⟩ = .ok .rdr := by decide
theorem test_decode_wrp : decode ⟨0b1010000000010001, 7⟩ = .ok (.wrp 17 7) := by decide
theorem test_decode_xorp : decode ⟨0b1011000000001010, 7⟩ = .ok (.xorp 10 7) := by decide
theorem test_decode_rdp : decode ⟨0b1100000000010000, 7⟩ = .ok (.rdp 16) := by decide
theorem test_decode_wrs : decode ⟨0b1101001010100101, 7⟩ = .ok (.wrs 2 165 7) := by decide
theorem test_decode_rds : decode ⟨0b1110000111111111, 7⟩ = .ok (.rds 1 255) := by decide

/-- V-ERR-1, V-ERR-2, V-ERR-3, and V-TA-5's `C812`: a reserved bit and index 18 together. -/
theorem test_decode_rejects :
    decode ⟨0xF012, 0⟩ = .error .illOp ∧ decode ⟨0xA112, 0⟩ = .error .illFld ∧ decode ⟨0xA012, 0⟩ = .error .illIdx ∧
      decode ⟨0xC812, 0⟩ = .error .illFld := by decide

/-- 30_encoding.md R65's listing of `WRP 3, 0xDEADBEEF`, R63's of the last S word. -/
theorem test_encode : encode (.wrp 3 0xDEADBEEF) = ⟨0xA003, 0xDEADBEEF⟩ ∧ encode (.rds 3 255) = ⟨0xE3FF, 0⟩ := by decide

/-- The rows of 30_encoding.md R59 as table words. -/
theorem test_decodeTableWord :
    decodeTableWord 16 0xA000 = some (.wrp 0 0) ∧ decodeTableWord 16 0xE000 = some (.rds 0 0) ∧
      decodeTableWord 16 0xF000 = none := by decide

/-- The first step after reset runs the placed command: `WRL 0` answers `0/00000000` (V-BR-1). -/
theorem test_withFetchWord_wrl :
    answerOf (step (State.reset.withFetchWord 16 0x4000)) = some ⟨.ok, 0⟩ := by decide

/-! ### The constants -/

/-- 40_init.md R74: anchors, and the XOR of the words of P and of the last box. -/
theorem test_pi_checks :
    readS piS 0 0 = 0xD1310BA6 ∧ readS piS 0 255 = 0x6E85076A ∧ readS piS 1 0 = 0x4B7A70E9 ∧
      readS piS 1 255 = 0xDB83ADF7 ∧ readS piS 2 0 = 0xE93D5A68 ∧ readS piS 2 255 = 0x406000E0 ∧
      piP.toList.foldl (· ^^^ ·) 0 = 0xB73AD7EA ∧ piS[3].toList.foldl (· ^^^ ·) 0 = 0x1779E2BC := by decide +kernel

/-! ### Vectors of 95_test_vectors.md -/

/-- Section 3.2's table of F: a carry out of the first sum, and the two rows that tell the byte order. -/
theorem test_roundF :
    roundF piS 0xFFFFFFFF = 0x452C2867 ∧ roundF piS 0x000000FF = 0x305999CD ∧ roundF piS 0xFF000000 = 0x8AFBF072 := by
  decide +kernel

/-- V-ENC-5b. -/
theorem test_enc : blockOf (exec .enc (initState 0x01234567 0x89ABCDEF)) = some (0x738E078D, 0x4C8703A6) := by
  decide +kernel

/-- V-ENC-3: the halves exchanged on zero tables. -/
theorem test_enc_zero :
    blockOf (exec .enc (zeroState 0x11111111 0x22222222)) = some (0x22222222, 0x11111111) := by decide +kernel

/-- V-INIT-3: a written P word is the constant again. -/
theorem test_init : (stateOf (exec .init (zeroState 1 2))).map (fun s => (readP s.P 0, readS s.S 1 0x55)) =
    some (0x243F6A88, 0xDB851DFA) := by decide +kernel

/-- V-CT-5: `INIT` sets `INITD` and does not clear `ERR`. -/
theorem test_init_keeps_error :
    (stateOf (exec .init (withStatus ⟨false, true, 3⟩))).map (fun s => statusWord s.status) = some 0xF := by decide

/-- V-CT-1. -/
theorem test_nop : answerOf (exec .nop (zeroState 1 2)) = some ⟨.ok, 0⟩ := by decide

/-- V-CT-4: not initialised, first error `ILLFLD`. -/
theorem test_rdstat : answerOf (exec .rdstat (withStatus ⟨false, true, 2⟩)) = some ⟨.ok, 0xA⟩ := by decide

/-- V-BR-1. -/
theorem test_wrl : blockOf (exec (.wrl 0x4F727068) (zeroState 1 2)) = some (0x4F727068, 2) := by decide

/-- V-BR-1. -/
theorem test_wrr : blockOf (exec (.wrr 0x65616E42) (zeroState 1 2)) = some (1, 0x65616E42) := by decide

/-- V-BR-2. -/
theorem test_xorl : blockOf (exec (.xorl 0xFFFFFFFF) (zeroState 0x706D9FCC 2)) = some (0x8F926033, 2) := by decide

/-- V-BR-2. -/
theorem test_xorr : blockOf (exec (.xorr 0x0000FFFF) (zeroState 1 0x1792D23A)) = some (1, 0x17922DC5) := by decide

/-- V-BR-7. -/
theorem test_rdl : answerOf (exec .rdl (zeroState 8 9)) = some ⟨.ok, 8⟩ := by decide

/-- V-BR-7. -/
theorem test_rdr : answerOf (exec .rdr (zeroState 8 9)) = some ⟨.ok, 9⟩ := by decide

/-- V-TA-1. -/
theorem test_wrp : (stateOf (exec (.wrp 3 0xDEADBEEF) (zeroState 0 0))).map (fun s => (readP s.P 3, readP s.P 4)) =
    some (0xDEADBEEF, 0) := by decide

/-- V-TA-2. -/
theorem test_xorp : (stateOf (exec (.xorp 0 0xFFFFFFFF) (initState 0 0))).map (fun s => readP s.P 0) =
    some 0xDBC09577 := by decide

/-- V-TA-4. -/
theorem test_rdp : answerOf (exec (.rdp 17) (initState 0 0)) = some ⟨.ok, 0x8979FB1B⟩ := by decide

/-- V-TA-7: no carry from the entry into the box. -/
theorem test_wrs : (stateOf (exec (.wrs 0 255 1) (initState 0 0))).map (fun s => (readS s.S 0 255, readS s.S 1 0)) =
    some (1, 0x4B7A70E9) := by decide +kernel

/-- V-TA-8. -/
theorem test_rds : answerOf (exec (.rds 3 255) (initState 0 0)) = some ⟨.ok, 0x3AC372E6⟩ := by decide +kernel

/-- V-CT-3: the second error is answered with its own code and `ECODE` keeps the first. -/
theorem test_illegal_second :
    answerOf (runCommand ⟨0xA012, 0⟩ (withStatus ⟨true, true, 1⟩)) = some ⟨.illIdx, 0⟩ ∧
      (stateOf (runCommand ⟨0xA012, 0⟩ (withStatus ⟨true, true, 1⟩))).map (fun s => statusWord s.status) = some 7 := by
  decide

/-- V-RST-1: `STATUS` is zero after a reset. -/
theorem test_reset :
    (stateOf (step { withStatus ⟨true, true, 2⟩ with turns := [.reset] })).map (fun s => statusWord s.status) = some 0 := by
  decide

/-- 20_memory.md R33: the linear positions at which a table begins or ends. -/
theorem test_linear : linearBox 18 = 0 ∧ linearEnt 18 = 0 ∧ linearBox 273 = 0 ∧ linearEnt 273 = 255 ∧ linearBox 274 = 1 ∧
    linearEnt 274 = 0 ∧ linearBox 1041 = 3 ∧ linearEnt 1041 = 255 := by decide

/-! ### Cases that meet the hypotheses of the statements -/

theorem witness_ResetClearsStatusAndResponses : ∃ (s : State) (ts : List Turn), s.turns = .reset :: ts :=
  ⟨hostState [] [.reset], [], rfl⟩

theorem witness_ResetForgetsEverything : ∃ (s s' : State) (ts : List Turn), s.turns = .reset :: ts ∧ s'.turns = s.turns ∧
    s'.offered = s.offered ∧ s'.resets = s.resets ∧ s'.L ≠ s.L :=
  ⟨hostState [] [.reset], { hostState [] [.reset] with L := 5 }, [], rfl, rfl, rfl, rfl, by decide⟩

theorem witness_IdleCoreExecutesNothing : CommandMovesNext (zeroState 0 0) ∧ (zeroState 0 0).offered = [] :=
  ⟨.inl rfl, rfl⟩

/-- The boundary on the unready side is one response more than `Config.earlyAccepts`. -/
theorem witness_UntakenResponsesStallWithoutLoss :
    (CommandMovesNext stalledState ∧ cmdReady stalledState = false) ∧
      (∃ s : State, s.turns = [.take] ∧ s.pending = [⟨.ok, 3⟩]) ∧ (∃ s : State, s.pending = []) ∧
      ∀ n, ∃ s : State, n < s.pending.length :=
  ⟨⟨.inl rfl, by simp [cmdReady, stalledState, List.replicate_succ]⟩,
    ⟨{ zeroState 0 0 with turns := [.take], pending := [⟨.ok, 3⟩] }, rfl, rfl⟩, ⟨zeroState 0 0, rfl⟩,
    fun n => ⟨{ zeroState 0 0 with pending := List.replicate (n + 1) ⟨.ok, 0⟩ }, by simp⟩⟩

theorem witness_OneResponsePerCommandInOrder : ∃ t, step (hostState [⟨0x4000, 5⟩] []) = .next t ∧
    ∀ ts, (hostState [⟨0x4000, 5⟩] []).turns ≠ .reset :: ts := ⟨_, rfl, nofun⟩

theorem witness_StepRunsDecodedCommand :
    CommandMovesNext (hostState [⟨0xA011, 5⟩] [.command]) ∧ cmdReady (hostState [⟨0xA011, 5⟩] [.command]) = true ∧
      decode ⟨0xA011, 5⟩ = .ok (.wrp 17 5) := ⟨.inr ⟨_, rfl⟩, rfl, rfl⟩

theorem witness_StepAnswersIllegalCommand :
    CommandMovesNext (hostState [⟨0xA012, 5⟩] []) ∧ cmdReady (hostState [⟨0xA012, 5⟩] []) = true ∧
      decode ⟨0xA012, 5⟩ = .error .illIdx := ⟨.inl rfl, rfl, rfl⟩

theorem witness_EveryStepKeepsInvariant :
    (hostState [⟨0xF000, 5⟩] []).Inv ∧ ∃ t, step (hostState [⟨0xF000, 5⟩] []) = .next t :=
  ⟨⟨by decide, by decide, Nat.zero_le _⟩, _, rfl⟩

theorem witness_EveryStepKeepsErrorRecord :
    (hostState [⟨0xF000, 5⟩] []).StatusRecords ∧ ∃ t, step (hostState [⟨0xF000, 5⟩] []) = .next t :=
  ⟨by decide, _, rfl⟩

/-- Both clauses: an error already recorded, and the step that records the first one. -/
theorem witness_ErrorRecordIsSticky :
    (∃ t, step (withStatus ⟨false, true, 1⟩) = .next t) ∧
      ∃ t, step (hostState [⟨0xA112, 0⟩] []) = .next t ∧ (hostState [⟨0xA112, 0⟩] []).status.ERR = false ∧
        t.status.ERR = true := ⟨⟨_, rfl⟩, _, rfl, rfl, rfl⟩

/-- Both clauses: `INITD` already set, and the step that sets it. -/
theorem witness_InitdIsSetByInitOnly :
    (∃ t, step (withStatus ⟨true, false, 0⟩) = .next t) ∧
      ∃ t, step (hostState [⟨0x1000, 0⟩] []) = .next t ∧ (hostState [⟨0x1000, 0⟩] []).status.INITD = false ∧
        t.status.INITD = true := ⟨⟨_, rfl⟩, _, rfl, rfl, rfl⟩

theorem witness_DecodeOfEncodeIsIdentity : (Instr.wrp 17 0).wellFormed = true ∧ (Instr.wrs 3 255 0).wellFormed = true := by
  decide

theorem witness_LegalCommandHasOneEncoding : decode ⟨0xA000, 5⟩ = .ok (.wrp 0 5) ∧ decode ⟨0x8000, 5⟩ = .ok .rdl := by
  decide

/-- The words at the ends of each range of rejected words. -/
theorem witness_RejectedWordsAndTheirCauses :
    decode ⟨0xF000, 0⟩ = .error .illOp ∧ decode ⟨0xFFFF, 0⟩ = .error .illOp ∧ decode ⟨0x0001, 0⟩ = .error .illFld ∧
      decode ⟨0x9FFF, 0⟩ = .error .illFld ∧ decode ⟨0xA020, 0⟩ = .error .illFld ∧ decode ⟨0xCFFF, 0⟩ = .error .illFld ∧
      decode ⟨0xD400, 0⟩ = .error .illFld ∧ decode ⟨0xEFFF, 0⟩ = .error .illFld ∧ decode ⟨0xA012, 0⟩ = .error .illIdx ∧
      decode ⟨0xC01F, 0⟩ = .error .illIdx := by decide

theorem witness_DecoderAgreesWithOpcodeMap : opcodeRows.all (fun p => rowHas p p.pattern) = true := by decide

theorem witness_UnusedDataWordIsIgnored :
    (decode ⟨0xC011, 5⟩ = .ok (.rdp 17) ∧ (Instr.rdp 17).takesData = false) ∧ decode ⟨0xC012, 5⟩ = .error .illIdx := by
  decide

theorem witness_IllegalCommandHasNoOtherEffect :
    decode ⟨0xF000, 5⟩ = .error .illOp ∧ Instr.wellFormed .enc = true ∧ ∃ t, exec .enc (zeroState 1 2) = .next t :=
  ⟨rfl, rfl, _, rfl⟩

theorem witness_TermWithNoPWordIsIllegal : 18 ≤ (18 : PIdx).toNat ∧ 18 ≤ (31 : PIdx).toNat := by decide

/-- `RejectsArgument` (the ten format-N statements, `NopDoesNothing` to `RdrReadsRightHalf`), `RejectsPWords`
(`WrpReplacesOnePWord`, `XorpMixesIntoOnePWord`, `RdpReadsOnePWord`) and `RejectsSWords` (`WrsReplacesOneSWord`,
`RdsReadsOneSWord`) at the ends of their ranges. -/
theorem witness_Rejects : (0 < 1 ∧ 1 < 4096) ∧ (0 < 4095 ∧ 4095 < 4096) ∧ (32 ≤ 32 ∧ 32 < 4096) ∧ (18 ≤ 18 ∧ 18 < 32) ∧
    (18 ≤ 31 ∧ 31 < 32) ∧ 1024 ≤ 1024 ∧ 1024 < 4096 := by decide

theorem witness_RdstatReadsStatus : (⟨false, false, 0⟩ : Status).Legal ∧ (⟨true, true, 3⟩ : Status).Legal := by decide

/-- With zero S-boxes F is zero, so with zero P words too the folded sequences stand still. -/
theorem witness_FoldedFormIsTheSameFunction :
    let s := zeroState 0x11111111 0x22222222
    let xl : Nat → Word := fun _ => s.L
    let xr : Nat → Word := fun _ => s.R
    xl 0 = s.L ^^^ readP s.P 0 ∧ xr 0 = s.R ∧
      (∀ n, (h : n < 16) → n % 2 = 0 →
        xr (n + 1) = xr n ^^^ (roundF s.S (xl n) ^^^ readP s.P ⟨n + 1, by omega⟩) ∧ xl (n + 1) = xl n) ∧
      ∀ n, (h : n < 16) → n % 2 = 1 →
        xl (n + 1) = xl n ^^^ (roundF s.S (xr n) ^^^ readP s.P ⟨n + 1, by omega⟩) ∧ xr (n + 1) = xr n := by
  decide +kernel

theorem witness_ReversedSubkeysUndoEncryption :
    ∀ k : Fin 18, readP (Vector.ofFn fun i => readP piP (Fin.rev i)) k = readP piP (Fin.rev k) := by decide +kernel

theorem witness_EncWithZeroSBoxes : (∀ b j, readS (zeroState 1 2).S b j = 0) ∧ ∀ k, readP (zeroState 1 2).P k = 0 :=
  ⟨fun b j => by simp [readS, zeroState], fun k => by simp [readP, zeroState]⟩

/-- The index hypothesis of `WrpReplacesOnePWord`, `XorpMixesIntoOnePWord`, `RdpReadsOnePWord` and
`XorpCommandsCommute`, at its ends. -/
theorem witness_PIndex : (0 : PIdx).toNat < 18 ∧ (17 : PIdx).toNat < 18 := by decide

/-- For each clause a command under which that state changes. -/
theorem witness_OnlyNamedCommandsWriteState :
    (∃ t, exec (.wrp 17 1) (zeroState 0 0) = .next t ∧ readP t.P 17 ≠ readP (zeroState 0 0).P 17) ∧
      (∃ t, exec (.wrs 3 255 1) (zeroState 0 0) = .next t ∧ readS t.S 3 255 ≠ readS (zeroState 0 0).S 3 255) ∧
      (∃ t, exec (.xorl 1) (zeroState 0 0) = .next t ∧ t.L ≠ (zeroState 0 0).L) ∧
      (∃ t, exec (.wrr 1) (zeroState 0 0) = .next t ∧ t.R ≠ (zeroState 0 0).R) ∧
      ∃ t, exec .init (zeroState 0 0) = .next t ∧ t.status.INITD ≠ (zeroState 0 0).status.INITD :=
  ⟨⟨_, rfl, by decide⟩, ⟨_, rfl, by decide +kernel⟩, ⟨_, rfl, by decide⟩, ⟨_, rfl, by decide⟩, _, rfl, by decide⟩

theorem witness_DataNeverDependsOnStatus :
    Instr.wellFormed (.rdp 17) = true ∧ ∃ t, exec (.rdp 17) (zeroState 0 0) = .next t := ⟨rfl, _, rfl⟩

theorem witness_ReadsAreRepeatable : ∃ i : Instr, i.wellFormed = true ∧ ∃ k, i = .rdp k := ⟨.rdp 17, rfl, 17, rfl⟩

theorem witness_WritesRepeatAndXorsCancel :
    (∃ i : Instr, i.wellFormed = true ∧ ∃ k v, i = .wrp k v) ∧ ∃ i : Instr, i.wellFormed = true ∧ ∃ k v, i = .xorp k v :=
  ⟨⟨.wrp 17 5, rfl, 17, 5, rfl⟩, .xorp 17 5, rfl, 17, 5, rfl⟩

/-- For each clause tables that hold the new word at one end of its index range and are otherwise as before. -/
theorem witness_NextEncUsesWrittenTables (s : State) (v : Word) :
    (readP (writeP s.P 17 v) 17 = v ∧ ∀ k : Fin 18, k.val ≠ 17 → readP (writeP s.P 17 v) k = readP s.P k) ∧
      (readP (writeP s.P 0 (readP s.P 0 ^^^ v)) 0 = readP s.P 0 ^^^ v ∧
        ∀ k : Fin 18, k.val ≠ 0 → readP (writeP s.P 0 (readP s.P 0 ^^^ v)) k = readP s.P k) ∧
      readS (writeS s.S 3 255 v) 3 255 = v ∧
        ∀ (c : Fin 4) (k : Fin 256), c.val ≠ 3 ∨ k.val ≠ 255 → readS (writeS s.S 3 255 v) c k = readS s.S c k :=
  ⟨⟨readP_writeP_same _ _ _, fun _ h => readP_writeP_other _ _ (Fin.ne_of_val_ne h)⟩,
    ⟨readP_writeP_same _ _ _, fun _ h => readP_writeP_other _ _ (Fin.ne_of_val_ne h)⟩, readS_writeS_same _ _ _ _,
    fun _ _ h => readS_writeS_other _ _ fun e => h.elim (fun n => n (congrArg (·.1.val) e)) fun n => n (congrArg (·.2.val) e)⟩

theorem witness_RunIsTheFoldOfItsCommands :
    (∀ i ∈ [Instr.init, .wrp 17 5, .enc], i.wellFormed = true) ∧ (zeroState 0 0).pending = [] := by decide

end Sys2Proof.Machine.Tests
end

section
/-! PROOFS. Running one command word, and `INIT` (40_init.md). -/

namespace Sys2Proof

/-- A format-N word with a non-zero argument field is `ILLFLD` (30_encoding.md R55). -/
theorem decode_formatN_argument {op x : Nat} (hop : op ≤ 9) (hx : 0 < x) (hlt : x < 4096) (v : Word) :
    decode ⟨BitVec.ofNat 16 (4096 * op + x), v⟩ = .error .illFld := by
  have hn : (BitVec.ofNat 16 (4096 * op + x)).toNat = 4096 * op + x := by
    rw [BitVec.toNat_ofNat, Nat.mod_eq_of_lt (by omega)]
  have ho : (opField (BitVec.ofNat 16 (4096 * op + x))).toNat = op := by rw [opField_toNat, hn]; omega
  have hz : zero12Field (BitVec.ofNat 16 (4096 * op + x)) ≠ 0 := fun h => by
    have hzero : x % 4096 = 0 := by simpa [zero12Field_toNat, hn] using congrArg BitVec.toNat h
    omega
  simp only [decode, ho]
  rw [if_neg (by omega), if_pos hop, if_pos hz]

end Sys2Proof

namespace Sys2Proof.Machine

/-! ### Running one command word -/

theorem runCommand_of_decode_ok {c : Command} {i : Instr} (h : decode c = .ok i) (s : State) :
    runCommand c s = exec i s := by
  simp [runCommand, h]

theorem runCommand_of_decode_error {c : Command} {e : Illegal} (h : decode c = .error e) (s : State) :
    runCommand c s = .next (takeIllegal e s) := by
  simp [runCommand, h]

theorem rejectsArgument_of_formatN {op : Nat} (hop : op ≤ 9) (s : State) : RejectsArgument op s :=
  fun v _ hx hlt =>
    ⟨_, runCommand_of_decode_error (decode_formatN_argument hop hx hlt v) s, takeIllegal_effect .illFld s⟩

theorem answered_respond (st : RspStatus) (rd : Word) (s : State) : Answered s (s.respond st rd) ⟨st, rd⟩ :=
  ⟨rfl, rfl, rfl, rfl, rfl⟩

/-! ### `INIT` -/

theorem exec_init (s : State) : exec .init s = .next (s.loadInit.respond .ok 0) := rfl

/-- The first of the constants (40_init.md R70). -/
theorem readP_piP_first : readP piP 0 = 0x243F6A88 := by decide

/-- The last of the constants (40_init.md R70). -/
theorem readS_piS_last : readS piS 3 255 = 0x3AC372E6 := by decide +kernel

/-- Settles O24: `INIT` answers with the state `loadInit` leaves, whose fields are the constants and, beside `INITD`,
those of `s`; the words of the operation field 1 are format N. -/
theorem initLoadsConstants : Obligations.InitLoadsConstants := by
  intro s
  refine ⟨⟨_, exec_init s, ?_⟩, ?_, rejectsArgument_of_formatN (by decide) s⟩
  · exact ⟨fun _ => rfl, fun _ _ => rfl, readP_piP_first, readS_piS_last, rfl, rfl, rfl, rfl, rfl,
      answered_respond .ok 0 s.loadInit⟩
  · exact fun w => runCommand_of_decode_ok (decode_formatN (op := 1) (by decide) w) s

end Sys2Proof.Machine
end

section
/-! PROOFS. The block register commands (42_block_regs.md). -/

namespace Sys2Proof.Machine

/-- A format-N word with a zero argument field runs the N command of its operation field (30_encoding.md R55). -/
theorem runCommand_formatN {op : Nat} (hop : op ≤ 9) {v : Word} {i : Instr} (h : nCommand op v = .ok i) (s : State) :
    runCommand ⟨BitVec.ofNat 16 (4096 * op), v⟩ s = exec i s :=
  runCommand_of_decode_ok ((decode_formatN hop v).trans h) s

/-! ### What each command answers -/

theorem exec_wrl (v : Word) (s : State) : exec (.wrl v) s = .next ((s.setL v).respond .ok 0) := rfl

theorem exec_wrr (v : Word) (s : State) : exec (.wrr v) s = .next ((s.setR v).respond .ok 0) := rfl

theorem exec_xorl (v : Word) (s : State) : exec (.xorl v) s = .next ((s.setL (s.L ^^^ v)).respond .ok 0) := rfl

theorem exec_xorr (v : Word) (s : State) : exec (.xorr v) s = .next ((s.setR (s.R ^^^ v)).respond .ok 0) := rfl

theorem exec_rdl (s : State) : exec .rdl s = .next (s.respond .ok s.L) := rfl

theorem exec_rdr (s : State) : exec .rdr s = .next (s.respond .ok s.R) := rfl

/-! ### Effect and frame of writing a half, and of a response alone -/

/-- The left half written and the command answered: the state of `WRL` and `XORL` (42_block_regs.md R100, R102). -/
theorem setL_respond_effect (v : Word) (s : State) :
    ((s.setL v).respond .ok 0).L = v ∧ ((s.setL v).respond .ok 0).R = s.R ∧
      ((s.setL v).respond .ok 0).status = s.status ∧ SameTables s ((s.setL v).respond .ok 0) ∧
      Answered s ((s.setL v).respond .ok 0) ⟨.ok, 0⟩ := by
  have htables : SameTables s ((s.setL v).respond .ok 0) := (sameTables_iff _ _).mpr ⟨by simp, by simp⟩
  exact ⟨by simp, by simp, by simp, htables, answered_respond .ok 0 (s.setL v)⟩

/-- The right half written and the command answered: the state of `WRR` and `XORR` (42_block_regs.md R101, R103). -/
theorem setR_respond_effect (v : Word) (s : State) :
    ((s.setR v).respond .ok 0).R = v ∧ ((s.setR v).respond .ok 0).L = s.L ∧
      ((s.setR v).respond .ok 0).status = s.status ∧ SameTables s ((s.setR v).respond .ok 0) ∧
      Answered s ((s.setR v).respond .ok 0) ⟨.ok, 0⟩ := by
  have htables : SameTables s ((s.setR v).respond .ok 0) := (sameTables_iff _ _).mpr ⟨by simp, by simp⟩
  exact ⟨by simp, by simp, by simp, htables, answered_respond .ok 0 (s.setR v)⟩

theorem sameData_respond (st : RspStatus) (rd : Word) (s : State) : SameData s (s.respond st rd) :=
  ⟨(sameTables_iff _ _).mpr ⟨by simp, by simp⟩, by simp, by simp, by simp⟩

/-! ### The commands that write a half -/

/-- Settles O33: `WRL` answers with the state `setL` leaves; the words of the operation field 4 are format N. -/
theorem wrlWritesLeftHalf : Obligations.WrlWritesLeftHalf := fun v s =>
  ⟨⟨_, exec_wrl v s, setL_respond_effect v s⟩, runCommand_formatN (op := 4) (by decide) rfl s,
    rejectsArgument_of_formatN (by decide) s⟩

/-- Settles O34: `WRR` answers with the state `setR` leaves; the words of the operation field 5 are format N. -/
theorem wrrWritesRightHalf : Obligations.WrrWritesRightHalf := fun v s =>
  ⟨⟨_, exec_wrr v s, setR_respond_effect v s⟩, runCommand_formatN (op := 5) (by decide) rfl s,
    rejectsArgument_of_formatN (by decide) s⟩

/-- Settles O35: `XORL` writes `L` as `WRL` does, with the data word mixed into the old half; the words of the operation
field 6 are format N. -/
theorem xorlMixesIntoLeftHalf : Obligations.XorlMixesIntoLeftHalf := fun v s =>
  ⟨⟨_, exec_xorl v s, setL_respond_effect (s.L ^^^ v) s⟩, runCommand_formatN (op := 6) (by decide) rfl s,
    rejectsArgument_of_formatN (by decide) s⟩

/-- Settles O36: `XORR` writes `R` as `WRR` does, with the data word mixed into the old half; the words of the operation
field 7 are format N. -/
theorem xorrMixesIntoRightHalf : Obligations.XorrMixesIntoRightHalf := fun v s =>
  ⟨⟨_, exec_xorr v s, setR_respond_effect (s.R ^^^ v) s⟩, runCommand_formatN (op := 7) (by decide) rfl s,
    rejectsArgument_of_formatN (by decide) s⟩

/-! ### The commands that read a half -/

/-- Settles O37: `RDL` only responds, with `L`; `nCommand 8` drops the data word. -/
theorem rdlReadsLeftHalf : Obligations.RdlReadsLeftHalf := fun s =>
  ⟨⟨_, exec_rdl s, sameData_respond .ok s.L s, answered_respond .ok s.L s⟩,
    fun _ => runCommand_formatN (op := 8) (by decide) rfl s, rejectsArgument_of_formatN (by decide) s⟩

/-- Settles O38: `RDR` only responds, with `R`; `nCommand 9` drops the data word. -/
theorem rdrReadsRightHalf : Obligations.RdrReadsRightHalf := fun s =>
  ⟨⟨_, exec_rdr s, sameData_respond .ok s.R s, answered_respond .ok s.R s⟩,
    fun _ => runCommand_formatN (op := 9) (by decide) rfl s, rejectsArgument_of_formatN (by decide) s⟩

end Sys2Proof.Machine
end

section
/-! PROOFS. The table access commands (43_table_access.md). -/

namespace Sys2Proof

/-! ### The rejected words of formats P and S -/

/-- The number of the word with operation field `op` and the twelve bits `x` below it (30_encoding.md R54). -/
theorem opWord_toNat {op x : Nat} (hop : op < 16) (hx : x < 4096) :
    (BitVec.ofNat 16 (4096 * op + x)).toNat = 4096 * op + x := by
  rw [BitVec.toNat_ofNat, Nat.mod_eq_of_lt (by omega)]

theorem opField_opWord_toNat {op x : Nat} (hop : op < 16) (hx : x < 4096) :
    (opField (BitVec.ofNat 16 (4096 * op + x))).toNat = op := by
  rw [opField_toNat, opWord_toNat hop hx]; omega

/-- A format-P word with a non-zero reserved bit is `ILLFLD` (30_encoding.md R56). -/
theorem decode_formatP_reserved {op x : Nat} (hlo : 10 ≤ op) (hhi : op ≤ 12) (hx : 32 ≤ x) (hlt : x < 4096) (v : Word) :
    decode ⟨BitVec.ofNat 16 (4096 * op + x), v⟩ = .error .illFld := by
  have hop := opField_opWord_toNat (by omega : op < 16) hlt
  have hz : zero7Field (BitVec.ofNat 16 (4096 * op + x)) ≠ 0 := fun h => by
    have hzero : (4096 * op + x) / 32 % 128 = 0 := by
      rw [← opWord_toNat (by omega : op < 16) hlt, ← zero7Field_toNat, h]; rfl
    omega
  simp only [decode, hop]
  rw [if_neg (by omega), if_neg (by omega), if_pos hhi, if_pos hz]

/-- A format-P word with zero reserved bits and an index of 18 to 31 is `ILLIDX` (30_encoding.md R56). -/
theorem decode_formatP_index {op x : Nat} (hlo : 10 ≤ op) (hhi : op ≤ 12) (hx : 18 ≤ x) (hlt : x < 32) (v : Word) :
    decode ⟨BitVec.ofNat 16 (4096 * op + x), v⟩ = .error .illIdx := by
  have hn := opWord_toNat (by omega : op < 16) (by omega : x < 4096)
  have hop := opField_opWord_toNat (by omega : op < 16) (by omega : x < 4096)
  have hz : zero7Field (BitVec.ofNat 16 (4096 * op + x)) = 0 :=
    BitVec.eq_of_toNat_eq (by rw [zero7Field_toNat, hn]; simp; omega)
  have hp : 18 ≤ (pidxField (BitVec.ofNat 16 (4096 * op + x))).toNat := by rw [pidxField_toNat, hn]; omega
  simp only [decode, hop, hz]
  rw [if_neg (by omega), if_neg (by omega), if_pos hhi, if_neg (by simp), if_pos hp]

/-- A format-S word with a non-zero reserved bit is `ILLFLD` (30_encoding.md R57). -/
theorem decode_formatS_reserved {op x : Nat} (hlo : 13 ≤ op) (hhi : op ≤ 14) (hx : 1024 ≤ x) (hlt : x < 4096)
    (v : Word) : decode ⟨BitVec.ofNat 16 (4096 * op + x), v⟩ = .error .illFld := by
  have hop := opField_opWord_toNat (by omega : op < 16) hlt
  have hz : zero2Field (BitVec.ofNat 16 (4096 * op + x)) ≠ 0 := fun h => by
    have hzero : (4096 * op + x) / 1024 % 4 = 0 := by
      rw [← opWord_toNat (by omega : op < 16) hlt, ← zero2Field_toNat, h]; rfl
    omega
  simp only [decode, hop]
  rw [if_neg (by omega), if_neg (by omega), if_neg (by omega), if_pos hz]

end Sys2Proof

namespace Sys2Proof.Machine

/-! ### Running the words of formats P and S -/

/-- A format-P word with a legal index runs the P command of its operation field (30_encoding.md R56). -/
theorem runCommand_formatP {op : Nat} (hlo : 10 ≤ op) (hhi : op ≤ 12) {i : PIdx} (hi : i.toNat < 18) {v : Word}
    {c : Instr} (h : pCommand op i v = .ok c) (s : State) : runCommand ⟨formatP op i, v⟩ s = exec c s :=
  runCommand_of_decode_ok ((decode_formatP hlo hhi hi v).trans h) s

/-- A format-S word with zero reserved bits runs the S command of its operation field (30_encoding.md R57). -/
theorem runCommand_formatS {op : Nat} (hlo : 13 ≤ op) (hhi : op ≤ 14) (b : BoxIdx) (j : EntIdx) {v : Word} {c : Instr}
    (h : sCommand op b j v = .ok c) (s : State) : runCommand ⟨formatS op b j, v⟩ s = exec c s :=
  runCommand_of_decode_ok ((decode_formatS hlo hhi b j v).trans h) s

theorem rejectsPWords_of_formatP {op : Nat} (hlo : 10 ≤ op) (hhi : op ≤ 12) (s : State) : RejectsPWords op s :=
  fun v _ =>
    ⟨fun hx hlt => ⟨_, runCommand_of_decode_error (decode_formatP_reserved hlo hhi hx hlt v) s,
        takeIllegal_effect .illFld s⟩,
      fun hx hlt => ⟨_, runCommand_of_decode_error (decode_formatP_index hlo hhi hx hlt v) s,
        takeIllegal_effect .illIdx s⟩⟩

theorem rejectsSWords_of_formatS {op : Nat} (hlo : 13 ≤ op) (hhi : op ≤ 14) (s : State) : RejectsSWords op s :=
  fun v _ hx hlt =>
    ⟨_, runCommand_of_decode_error (decode_formatS_reserved hlo hhi hx hlt v) s, takeIllegal_effect .illFld s⟩

/-! ### What each command answers -/

theorem exec_wrp_legal {i : PIdx} (h : i.toNat < 18) (v : Word) (s : State) :
    exec (.wrp i v) s = .next ((s.setP ⟨i.toNat, h⟩ v).respond .ok 0) := execWrp_legal h v s

theorem exec_xorp_legal {i : PIdx} (h : i.toNat < 18) (v : Word) (s : State) :
    exec (.xorp i v) s = .next ((s.setP ⟨i.toNat, h⟩ (readP s.P ⟨i.toNat, h⟩ ^^^ v)).respond .ok 0) :=
  execXorp_legal h v s

theorem exec_rdp_legal {i : PIdx} (h : i.toNat < 18) (s : State) :
    exec (.rdp i) s = .next (s.respond .ok (readP s.P ⟨i.toNat, h⟩)) := execRdp_legal h s

theorem exec_wrs (b : BoxIdx) (j : EntIdx) (v : Word) (s : State) :
    exec (.wrs b j v) s = .next ((s.setS b.toFin j.toFin v).respond .ok 0) := rfl

theorem exec_rds (b : BoxIdx) (j : EntIdx) (s : State) :
    exec (.rds b j) s = .next (s.respond .ok (readS s.S b.toFin j.toFin)) := rfl

/-! ### Effect and frame of writing a table word -/

/-- A P word written and the command answered: the state of `WRP` and `XORP` (43_table_access.md R110, R111). -/
theorem setP_respond_effect (i : Fin 18) (v : Word) (s : State) :
    readP ((s.setP i v).respond .ok 0).P i = v ∧
      (∀ k : Fin 18, k.val ≠ i.val → readP ((s.setP i v).respond .ok 0).P k = readP s.P k) ∧
      (∀ b j, readS ((s.setP i v).respond .ok 0).S b j = readS s.S b j) ∧
      ((s.setP i v).respond .ok 0).L = s.L ∧ ((s.setP i v).respond .ok 0).R = s.R ∧
      ((s.setP i v).respond .ok 0).status = s.status ∧ Answered s ((s.setP i v).respond .ok 0) ⟨.ok, 0⟩ := by
  have hother (k : Fin 18) (hk : k.val ≠ i.val) : readP ((s.setP i v).respond .ok 0).P k = readP s.P k :=
    readP_writeP_other s.P v (Fin.ne_of_val_ne hk)
  exact ⟨by simp, hother, by simp, by simp, by simp, by simp, answered_respond .ok 0 (s.setP i v)⟩

/-- An S word written and the command answered: the state of `WRS` (43_table_access.md R113). -/
theorem setS_respond_effect (b : Fin 4) (j : Fin 256) (v : Word) (s : State) :
    readS ((s.setS b j v).respond .ok 0).S b j = v ∧
      (∀ (c : Fin 4) (k : Fin 256), c.val ≠ b.val ∨ k.val ≠ j.val →
        readS ((s.setS b j v).respond .ok 0).S c k = readS s.S c k) ∧
      (∀ k, readP ((s.setS b j v).respond .ok 0).P k = readP s.P k) ∧
      ((s.setS b j v).respond .ok 0).L = s.L ∧ ((s.setS b j v).respond .ok 0).R = s.R ∧
      ((s.setS b j v).respond .ok 0).status = s.status ∧ Answered s ((s.setS b j v).respond .ok 0) ⟨.ok, 0⟩ := by
  have hother (c : Fin 4) (k : Fin 256) (hck : c.val ≠ b.val ∨ k.val ≠ j.val) :
      readS ((s.setS b j v).respond .ok 0).S c k = readS s.S c k :=
    readS_writeS_other s.S v (by simpa [Fin.ext_iff, imp_iff_not_or] using hck)
  exact ⟨by simp, hother, by simp, by simp, by simp, by simp, answered_respond .ok 0 (s.setS b j v)⟩

/-! ### The commands on the P-array -/

/-- Settles O39: `WRP` answers with the state `setP` leaves; the words of the operation field 0xA are format P. -/
theorem wrpReplacesOnePWord : Obligations.WrpReplacesOnePWord := by
  intro v s
  refine ⟨fun i h => ⟨⟨_, exec_wrp_legal h v s, setP_respond_effect ⟨i.toNat, h⟩ v s⟩, ?_⟩,
    rejectsPWords_of_formatP (by decide) (by decide) s⟩
  exact runCommand_formatP (op := 0xA) (by decide) (by decide) h rfl s

/-- Settles O40: `XORP` writes the P word as `WRP` does, with the data word mixed into the old one; the words of the
operation field 0xB are format P. -/
theorem xorpMixesIntoOnePWord : Obligations.XorpMixesIntoOnePWord := by
  intro v s
  refine ⟨fun i h => ⟨⟨_, exec_xorp_legal h v s, setP_respond_effect ⟨i.toNat, h⟩ _ s⟩, ?_⟩,
    rejectsPWords_of_formatP (by decide) (by decide) s⟩
  exact runCommand_formatP (op := 0xB) (by decide) (by decide) h rfl s

/-- Settles O41: `RDP` only responds, with the P word; `pCommand 0xC` drops the data word. -/
theorem rdpReadsOnePWord : Obligations.RdpReadsOnePWord := by
  intro s
  refine ⟨fun i h => ⟨⟨_, exec_rdp_legal h s, sameData_respond .ok _ s, answered_respond .ok _ s⟩, fun w => ?_⟩,
    rejectsPWords_of_formatP (by decide) (by decide) s⟩
  exact runCommand_formatP (op := 0xC) (by decide) (by decide) h rfl s

/-! ### The commands on the S-boxes -/

/-- Settles O42: `WRS` answers with the state `setS` leaves; the words of the operation field 0xD are format S. -/
theorem wrsReplacesOneSWord : Obligations.WrsReplacesOneSWord := by
  intro v s
  refine ⟨fun b j => ⟨⟨_, exec_wrs b j v s, setS_respond_effect b.toFin j.toFin v s⟩, ?_⟩,
    rejectsSWords_of_formatS (by decide) (by decide) s⟩
  exact runCommand_formatS (op := 0xD) (by decide) (by decide) b j rfl s

/-- Settles O43: `RDS` only responds, with the S word; `sCommand 0xE` drops the data word. -/
theorem rdsReadsOneSWord : Obligations.RdsReadsOneSWord := by
  intro s
  refine ⟨fun b j => ⟨⟨_, exec_rds b j s, sameData_respond .ok _ s, answered_respond .ok _ s⟩, fun w => ?_⟩,
    rejectsSWords_of_formatS (by decide) (by decide) s⟩
  exact runCommand_formatS (op := 0xE) (by decide) (by decide) b j rfl s

end Sys2Proof.Machine
end

section
/-! PROOFS. The control commands (44_control.md). -/

namespace Sys2Proof.Machine

/-! ### What each command answers -/

theorem exec_nop (s : State) : exec .nop s = .next (s.respond .ok 0) := rfl

theorem exec_rdstat (s : State) : exec .rdstat s = .next (s.respond .ok (statusWord s.status)) := rfl

/-! ### The fields of the word that `RDSTAT` reads (44_control.md R121) -/

/-- Every bit of the word: `INITD`, `ERR`, the bits of `ECODE`, and zeros, which `ECODE` reads beyond its width. -/
theorem getLsbD_statusWord (st : Status) (k : Nat) :
    (statusWord st).getLsbD k = if k = 0 then st.INITD else if k = 1 then st.ERR else st.ECODE.getLsbD (k - 2) := by
  rw [statusWord, BitVec.getLsbD_setWidth, BitVec.getLsbD_append, BitVec.getLsbD_append]
  obtain _ | _ | k := k
  · simp
  · simp
  · have hwidth (hbit : st.ECODE.getLsbD k = true) : k + 1 + 1 < 32 := by
      have := BitVec.lt_of_getLsbD hbit
      omega
    simpa using hwidth

theorem getLsbD_zero_statusWord (st : Status) : (statusWord st).getLsbD 0 = st.INITD := by
  rw [getLsbD_statusWord, if_pos rfl]

theorem getLsbD_one_statusWord (st : Status) : (statusWord st).getLsbD 1 = st.ERR := by
  rw [getLsbD_statusWord, if_neg (by decide), if_pos rfl]

theorem extractLsb'_two_statusWord (st : Status) : (statusWord st).extractLsb' 2 2 = st.ECODE := by
  refine BitVec.eq_of_getLsbD_eq fun k hk => ?_
  rw [BitVec.getLsbD_extractLsb', getLsbD_statusWord, if_neg (by omega), if_neg (by omega)]
  simp [hk]

theorem extractLsb'_four_statusWord (st : Status) : (statusWord st).extractLsb' 4 28 = 0 := by
  refine BitVec.eq_of_getLsbD_eq fun k hk => ?_
  rw [BitVec.getLsbD_extractLsb', getLsbD_statusWord, if_neg (by omega), if_neg (by omega),
    BitVec.getLsbD_of_ge _ _ (by omega)]
  simp

/-! ### The eight values that a legal `STATUS` can have -/

/-- `ERR` and `ECODE` of a legal `STATUS` form one of the four pairs of 10_state.md R14, with `INITD` free beside them. -/
theorem statusWord_mem_of_legal {st : Status} (h : st.Legal) :
    statusWord st ∈ ([0x0, 0x1, 0x6, 0xA, 0xE, 0x7, 0xB, 0xF] : List Word) := by
  obtain ⟨initd, err, ecode⟩ := st
  revert initd err ecode
  decide

/-- `STATUS` with the fields that a word of `RDSTAT` shows (44_control.md R121). -/
def statusOfWord (rd : Word) : Status := ⟨rd.getLsbD 0, rd.getLsbD 1, rd.extractLsb' 2 2⟩

@[simp] theorem statusOfWord_statusWord (st : Status) : statusOfWord (statusWord st) = st := by
  simp only [statusOfWord, getLsbD_zero_statusWord, getLsbD_one_statusWord, extractLsb'_two_statusWord]

/-- Each of the eight values is the word of the `STATUS` whose fields it shows, and that `STATUS` is legal. -/
theorem statusOfWord_legal_and_statusWord {rd : Word}
    (h : rd ∈ ([0x0, 0x1, 0x6, 0xA, 0xE, 0x7, 0xB, 0xF] : List Word)) :
    (statusOfWord rd).Legal ∧ statusWord (statusOfWord rd) = rd := by
  simp only [List.mem_cons, List.not_mem_nil, or_false] at h
  rcases h with rfl | rfl | rfl | rfl | rfl | rfl | rfl | rfl <;> decide

/-! ### The two commands -/

/-- Settles O22: `NOP` only responds, with zero; `nCommand 0` drops the data word, and the words of the operation field 0
are format N. -/
theorem nopDoesNothing : Obligations.NopDoesNothing := fun s =>
  ⟨⟨_, exec_nop s, sameData_respond .ok 0 s, answered_respond .ok 0 s⟩,
    fun _ => runCommand_formatN (op := 0) (by decide) rfl s, rejectsArgument_of_formatN (by decide) s⟩

/-- Settles O23: `RDSTAT` only responds, with `statusWord` of `STATUS`, whose fields stand above; `nCommand 3` drops the
data word, and the words of the operation field 3 are format N. -/
theorem rdstatReadsStatus : Obligations.RdstatReadsStatus := by
  intro s
  refine ⟨⟨_, statusWord s.status, exec_rdstat s, sameData_respond .ok _ s, answered_respond .ok _ s, ?fields⟩,
    fun _ => runCommand_formatN (op := 3) (by decide) rfl s, rejectsArgument_of_formatN (by decide) s, ?attained⟩
  case fields =>
    exact ⟨getLsbD_zero_statusWord _, getLsbD_one_statusWord _, extractLsb'_two_statusWord _,
      extractLsb'_four_statusWord _, statusWord_mem_of_legal⟩
  case attained => exact fun rd hrd => ⟨statusOfWord rd, statusOfWord_legal_and_statusWord hrd⟩

end Sys2Proof.Machine
end

section
/-! PROOFS. Illegal commands (60_exceptions.md). -/

namespace Sys2Proof.Machine

/-! ### A command on other `STATUS` and other pending responses -/

/-- `s` with the two parts that an illegal command writes replaced: `STATUS` and the pending responses
(60_exceptions.md R132). -/
def State.withReport (st : Status) (q : List Response) (s : State) : State := { s with status := st, pending := q }

theorem exec_enc (s : State) : exec .enc s = .next (s.encrypt.respond .ok 0) := rfl

theorem takeIllegal_eq_withReport (e : Illegal) (s : State) :
    takeIllegal e s = s.withReport (recordError (rspCode (illegalStatus e)) s.status)
      (s.pending ++ [⟨illegalStatus e, 0⟩]) := rfl

/-- The command moves the data to the same `d` whether or not `STATUS` and the pending responses of `s` are replaced by
`st` and `q`, answers the same but for `RDSTAT`, and leaves equal `INITD` where it found equal `INITD`. -/
def RunsAlike (i : Instr) (s : State) (st : Status) (q : List Response) : Prop :=
  ∃ (d : State) (rd rd' : Word) (st' : Status),
    exec i s = .next (d.respond .ok rd) ∧ exec i (s.withReport st q) = .next ((d.withReport st' q).respond .ok rd') ∧
      d.pending = s.pending ∧ (i ≠ .rdstat → rd' = rd) ∧
      (st.INITD = s.status.INITD → st'.INITD = d.status.INITD)

/-- A command that neither reads nor writes `STATUS` runs alike. -/
theorem runsAlike_of_respond {i : Instr} {s d : State} {rd : Word} {st : Status} {q : List Response}
    (h : exec i s = .next (d.respond .ok rd))
    (h' : exec i (s.withReport st q) = .next ((d.withReport st q).respond .ok rd))
    (hstatus : d.status = s.status) (hpending : d.pending = s.pending) : RunsAlike i s st q :=
  ⟨d, rd, rd, st, h, h', hpending, fun _ => rfl, fun hinitd => hinitd.trans (congrArg Status.INITD hstatus.symm)⟩

/-- No command's work depends on `STATUS` or on the pending responses: only `INIT` writes `STATUS`, and there the one
field `INITD`, and only `RDSTAT` reads it (10_state.md R15). -/
theorem runsAlike_of_wellFormed {i : Instr} (hwf : i.wellFormed = true) (s : State) (st : Status)
    (q : List Response) : RunsAlike i s st q := by
  cases i with
  | init => exact ⟨s.loadInit, 0, 0, setInitd st, exec_init s, exec_init _, rfl, fun _ => rfl, fun _ => rfl⟩
  | rdstat => exact ⟨s, _, _, st, exec_rdstat s, exec_rdstat _, rfl, fun hi => absurd rfl hi, id⟩
  | nop => exact runsAlike_of_respond (exec_nop s) (exec_nop _) rfl rfl
  | enc => exact runsAlike_of_respond (exec_enc s) (exec_enc _) rfl rfl
  | wrl v => exact runsAlike_of_respond (exec_wrl v s) (exec_wrl v _) rfl rfl
  | wrr v => exact runsAlike_of_respond (exec_wrr v s) (exec_wrr v _) rfl rfl
  | xorl v => exact runsAlike_of_respond (exec_xorl v s) (exec_xorl v _) rfl rfl
  | xorr v => exact runsAlike_of_respond (exec_xorr v s) (exec_xorr v _) rfl rfl
  | rdl => exact runsAlike_of_respond (exec_rdl s) (exec_rdl _) rfl rfl
  | rdr => exact runsAlike_of_respond (exec_rdr s) (exec_rdr _) rfl rfl
  | wrp k v =>
    have hk : k.toNat < 18 := of_decide_eq_true hwf
    exact runsAlike_of_respond (exec_wrp_legal hk v s) (exec_wrp_legal hk v _) rfl rfl
  | xorp k v =>
    have hk : k.toNat < 18 := of_decide_eq_true hwf
    exact runsAlike_of_respond (exec_xorp_legal hk v s) (exec_xorp_legal hk v _) rfl rfl
  | rdp k =>
    have hk : k.toNat < 18 := of_decide_eq_true hwf
    exact runsAlike_of_respond (exec_rdp_legal hk s) (exec_rdp_legal hk _) rfl rfl
  | wrs b j v => exact runsAlike_of_respond (exec_wrs b j v s) (exec_wrs b j v _) rfl rfl
  | rds b j => exact runsAlike_of_respond (exec_rds b j s) (exec_rds b j _) rfl rfl

/-! ### The illegal command -/

/-- Settles O20: a rejected command runs as `takeIllegal`, which replaces `STATUS` but for `INITD` and the pending
responses, and every well-formed instruction runs alike on the replaced state. -/
theorem illegalCommandHasNoOtherEffect : Obligations.IllegalCommandHasNoOtherEffect := by
  refine ⟨fun c e s h => ⟨_, runCommand_of_decode_error h s, takeIllegal_effect e s⟩, fun e i s t hwf ht => ?_⟩
  obtain ⟨d, rd, rd', st', hs, hu, -, hrd, hinitd⟩ := runsAlike_of_wellFormed hwf s
    (recordError (rspCode (illegalStatus e)) s.status) (s.pending ++ [⟨illegalStatus e, 0⟩])
  rw [← takeIllegal_eq_withReport] at hu
  obtain rfl : t = d.respond .ok rd := by injection ht.symm.trans hs
  refine ⟨_, hu, ⟨fun _ => rfl, fun _ _ => rfl⟩, rfl, rfl, hinitd rfl, fun hi => ?_⟩
  simp [hrd hi]

end Sys2Proof.Machine
end

section
/-! PROOFS. The encoding: what the decoder reads from each of the 65536 command words (30_encoding.md R59 to R63). -/

namespace Sys2Proof

/-! ### Encoding, then decoding -/

/-- Settles O15: command by command, by the format of the word that `encode` writes. -/
theorem decodeOfEncodeIsIdentity : Obligations.DecodeOfEncodeIsIdentity := by
  intro i
  cases i with
  | nop => exact Laws.RoundTrip.nop
  | init => exact Laws.RoundTrip.init
  | enc => exact Laws.RoundTrip.enc
  | rdstat => exact Laws.RoundTrip.rdstat
  | wrl v => exact Laws.RoundTrip.wrl v
  | wrr v => exact Laws.RoundTrip.wrr v
  | xorl v => exact Laws.RoundTrip.xorl v
  | xorr v => exact Laws.RoundTrip.xorr v
  | rdl => exact Laws.RoundTrip.rdl
  | rdr => exact Laws.RoundTrip.rdr
  | wrp k v => exact Laws.RoundTrip.wrp k v
  | xorp k v => exact Laws.RoundTrip.xorp k v
  | rdp k => exact Laws.RoundTrip.rdp k
  | wrs b j v => exact Laws.RoundTrip.wrs b j v
  | rds b j => exact Laws.RoundTrip.rds b j

/-! ### Decoding any word: rejected by its number, or one instruction for each data word -/

/-- The numbers of the words that are rejected with each cause (30_encoding.md R61, 60_exceptions.md R131). -/
def Illegal.Words : Illegal → Nat → Prop
  | .illOp, n => 0xF000 ≤ n
  | .illFld, n =>
    (n < 0xA000 ∧ n % 0x1000 ≠ 0) ∨ (0xA000 ≤ n ∧ n < 0xD000 ∧ 32 ≤ n % 0x1000) ∨
      (0xD000 ≤ n ∧ n < 0xF000 ∧ 1024 ≤ n % 0x1000)
  | .illIdx, n => 0xA000 ≤ n ∧ n < 0xD000 ∧ 18 ≤ n % 0x1000 ∧ n % 0x1000 < 32

theorem Illegal.words_unique {e e' : Illegal} {n : Nat} (h : e.Words n) (h' : e'.Words n) : e = e' := by
  by_contra hne
  cases e <;> cases e' <;> simp only [Illegal.Words, not_true_eq_false] at h h' hne <;> omega

/-- `cw` is the word of the instruction `f v` for every data word `v`, which the instruction carries where it takes data
and does not depend on where it does not (30_encoding.md R58, R61). -/
structure LegalWord (cw : CmdWord) (f : Word → Instr) : Prop where
  decodes (v : Word) : decode ⟨cw, v⟩ = .ok (f v)
  wellFormed (v : Word) : (f v).wellFormed = true
  encodes (v : Word) : (encode (f v)).cw = cw
  carries (v : Word) : (f v).takesData = true → (encode (f v)).wdata = v
  ignores (v w : Word) : (f v).takesData = false → f w = f v
  notRejected (e : Illegal) : ¬ e.Words cw.toNat

/-- Every command word is rejected with the cause of its number, or legal. -/
inductive WordReading (cw : CmdWord) : Prop where
  | rejected (e : Illegal) (hw : e.Words cw.toNat) (hd : ∀ v, decode ⟨cw, v⟩ = .error e)
  | legal (f : Word → Instr) (h : LegalWord cw f)

/-- A word with the reserved operation field is `ILLOP` (30_encoding.md R60). -/
theorem decode_opField_fifteen {x : Nat} (hlt : x < 4096) (v : Word) :
    decode ⟨BitVec.ofNat 16 (4096 * 15 + x), v⟩ = .error .illOp := by
  simp only [decode, opField_opWord_toNat (by decide : 15 < 16) hlt, ↓reduceIte]

/-- The ten words of format N with a zero argument field. -/
theorem wordReading_formatN {op : Nat} (hop : op ≤ 9) : WordReading (BitVec.ofNat 16 (4096 * op)) := by
  have hn : (BitVec.ofNat 16 (4096 * op)).toNat = 4096 * op := by
    rw [BitVec.toNat_ofNat, Nat.mod_eq_of_lt (by omega)]
  have hlegal (e : Illegal) : ¬ e.Words (BitVec.ofNat 16 (4096 * op)).toNat := by
    rw [hn]; cases e <;> simp only [Illegal.Words] <;> omega
  have hdec := decode_formatN hop
  interval_cases op
  · exact .legal (fun _ => .nop) ⟨hdec, fun _ => rfl, fun _ => rfl, nofun, fun _ _ _ => rfl, hlegal⟩
  · exact .legal (fun _ => .init) ⟨hdec, fun _ => rfl, fun _ => rfl, nofun, fun _ _ _ => rfl, hlegal⟩
  · exact .legal (fun _ => .enc) ⟨hdec, fun _ => rfl, fun _ => rfl, nofun, fun _ _ _ => rfl, hlegal⟩
  · exact .legal (fun _ => .rdstat) ⟨hdec, fun _ => rfl, fun _ => rfl, nofun, fun _ _ _ => rfl, hlegal⟩
  · exact .legal .wrl ⟨hdec, fun _ => rfl, fun _ => rfl, fun _ _ => rfl, nofun, hlegal⟩
  · exact .legal .wrr ⟨hdec, fun _ => rfl, fun _ => rfl, fun _ _ => rfl, nofun, hlegal⟩
  · exact .legal .xorl ⟨hdec, fun _ => rfl, fun _ => rfl, fun _ _ => rfl, nofun, hlegal⟩
  · exact .legal .xorr ⟨hdec, fun _ => rfl, fun _ => rfl, fun _ _ => rfl, nofun, hlegal⟩
  · exact .legal (fun _ => .rdl) ⟨hdec, fun _ => rfl, fun _ => rfl, nofun, fun _ _ _ => rfl, hlegal⟩
  · exact .legal (fun _ => .rdr) ⟨hdec, fun _ => rfl, fun _ => rfl, nofun, fun _ _ _ => rfl, hlegal⟩

/-- The words of format P with zero reserved bits and an index of 0 to 17. -/
theorem wordReading_formatP {op : Nat} (hlo : 10 ≤ op) (hhi : op ≤ 12) {i : PIdx} (hi : i.toNat < 18) :
    WordReading (formatP op i) := by
  have hlegal (e : Illegal) : ¬ e.Words (formatP op i).toNat := by
    rw [formatP_toNat (by omega)]; cases e <;> simp only [Illegal.Words] <;> omega
  have hdec := decode_formatP hlo hhi hi
  have hwf : PIdx.legal i = true := decide_eq_true hi
  match op, hlo, hhi with
  | 10, _, _ => exact .legal (.wrp i) ⟨hdec, fun _ => hwf, fun _ => rfl, fun _ _ => rfl, nofun, hlegal⟩
  | 11, _, _ => exact .legal (.xorp i) ⟨hdec, fun _ => hwf, fun _ => rfl, fun _ _ => rfl, nofun, hlegal⟩
  | 12, _, _ => exact .legal (fun _ => .rdp i) ⟨hdec, fun _ => hwf, fun _ => rfl, nofun, fun _ _ _ => rfl, hlegal⟩

/-- The words of format S with zero reserved bits. -/
theorem wordReading_formatS {op : Nat} (hlo : 13 ≤ op) (hhi : op ≤ 14) (b : BoxIdx) (j : EntIdx) :
    WordReading (formatS op b j) := by
  have hb := b.isLt
  have hj := j.isLt
  have hlegal (e : Illegal) : ¬ e.Words (formatS op b j).toNat := by
    rw [formatS_toNat (by omega)]; cases e <;> simp only [Illegal.Words] <;> omega
  have hdec := decode_formatS hlo hhi b j
  match op, hlo, hhi with
  | 13, _, _ => exact .legal (.wrs b j) ⟨hdec, fun _ => rfl, fun _ => rfl, fun _ _ => rfl, nofun, hlegal⟩
  | 14, _, _ => exact .legal (fun _ => .rds b j) ⟨hdec, fun _ => rfl, fun _ => rfl, nofun, fun _ _ _ => rfl, hlegal⟩

/-- A word whose number lies in a range of rejected words and that decodes with that cause. -/
theorem wordReading_rejected {op x : Nat} (hop : op < 16) (hx : x < 4096) (e : Illegal) (hw : e.Words (4096 * op + x))
    (hd : ∀ v, decode ⟨BitVec.ofNat 16 (4096 * op + x), v⟩ = .error e) :
    WordReading (BitVec.ofNat 16 (4096 * op + x)) :=
  .rejected e ((opWord_toNat hop hx).symm ▸ hw) hd

/-- What the decoder makes of the word with operation field `op` and the twelve bits `x` below it, format by format. -/
theorem wordReading_opWord {op x : Nat} (hop : op < 16) (hx : x < 4096) :
    WordReading (BitVec.ofNat 16 (4096 * op + x)) := by
  rcases (by omega : op = 15 ∨ op ≤ 9 ∨ (10 ≤ op ∧ op ≤ 12) ∨ (13 ≤ op ∧ op ≤ 14)) with
    rfl | hN | ⟨hlo, hhi⟩ | ⟨hlo, hhi⟩
  · exact wordReading_rejected hop hx .illOp (by simp only [Illegal.Words]; omega) (decode_opField_fifteen hx)
  · rcases Nat.eq_zero_or_pos x with rfl | hpos
    · exact wordReading_formatN hN
    · exact wordReading_rejected hop hx .illFld (by simp only [Illegal.Words]; omega)
        (decode_formatN_argument hN hpos hx)
  · rcases (by omega : 32 ≤ x ∨ (18 ≤ x ∧ x < 32) ∨ x < 18) with hres | ⟨hidx, hlt⟩ | hleg
    · exact wordReading_rejected hop hx .illFld (by simp only [Illegal.Words]; omega)
        (decode_formatP_reserved hlo hhi hres hx)
    · exact wordReading_rejected hop hx .illIdx (by simp only [Illegal.Words]; omega)
        (decode_formatP_index hlo hhi hidx hlt)
    · have hi : (BitVec.ofNat 5 x).toNat = x := by rw [BitVec.toNat_ofNat, Nat.mod_eq_of_lt (by omega)]
      have h := wordReading_formatP hlo hhi (i := BitVec.ofNat 5 x) (hi.symm ▸ hleg)
      rwa [formatP, hi] at h
  · rcases Nat.lt_or_ge x 1024 with hleg | hres
    · have h := wordReading_formatS hlo hhi (BitVec.ofNat 2 (x / 256)) (BitVec.ofNat 8 x)
      rwa [formatS, BitVec.toNat_ofNat, BitVec.toNat_ofNat,
        (by omega : 4096 * op + 256 * (x / 256 % 2 ^ 2) + x % 2 ^ 8 = 4096 * op + x)] at h
    · exact wordReading_rejected hop hx .illFld (by simp only [Illegal.Words]; omega)
        (decode_formatS_reserved hlo hhi hres hx)

theorem wordReading (cw : CmdWord) : WordReading cw := by
  have hlt := cw.isLt
  have h := wordReading_opWord (by omega : cw.toNat / 4096 < 16) (Nat.mod_lt cw.toNat (by decide : 0 < 4096))
  rwa [Nat.div_add_mod, BitVec.ofNat_toNat, BitVec.setWidth_eq] at h

/-- Settles O16: a word that decodes is legal, and a legal word is the one its instruction is encoded as. -/
theorem legalCommandHasOneEncoding : Obligations.LegalCommandHasOneEncoding := by
  intro c i hi
  cases wordReading c.cw with
  | rejected e _ hd => cases (hd c.wdata).symm.trans hi
  | legal f h =>
    obtain rfl : f c.wdata = i := by injection (h.decodes c.wdata).symm.trans hi
    exact ⟨h.wellFormed _, h.encodes _, h.carries _⟩

/-- The cause of a rejection is the one whose range holds the number of the word, and no other. -/
theorem decode_eq_error_iff (c : Command) (e : Illegal) : decode c = .error e ↔ e.Words c.cw.toNat := by
  cases wordReading c.cw with
  | rejected e' hw hd =>
    rw [show decode c = .error e' from hd c.wdata, Except.error.injEq]
    exact ⟨fun h => h ▸ hw, Illegal.words_unique hw⟩
  | legal f h =>
    rw [show decode c = .ok (f c.wdata) from h.decodes c.wdata]
    exact ⟨nofun, fun hw => absurd hw (h.notRejected e)⟩

/-- Settles O17: the three ranges are `Illegal.Words` of the three causes. -/
theorem rejectedWordsAndTheirCauses : Obligations.RejectedWordsAndTheirCauses := fun c =>
  ⟨decode_eq_error_iff c .illOp, decode_eq_error_iff c .illFld, decode_eq_error_iff c .illIdx⟩

/-- Settles O19: the data word changes neither what a legal word without data decodes to nor why a word is rejected. -/
theorem unusedDataWordIsIgnored : Obligations.UnusedDataWordIsIgnored := by
  intro cw v w s
  refine ⟨fun i hi hdata => ?_, fun e he => ?_⟩
  · cases wordReading cw with
    | rejected e _ hd => cases (hd v).symm.trans hi
    | legal f h =>
      obtain rfl : f v = i := by injection (h.decodes v).symm.trans hi
      rw [Machine.runCommand_of_decode_ok (h.decodes v), Machine.runCommand_of_decode_ok (h.decodes w),
        h.ignores v w hdata]
  · have hw : decode ⟨cw, w⟩ = .error e := (decode_eq_error_iff _ e).mpr ((decode_eq_error_iff ⟨cw, v⟩ e).mp he)
    rw [Machine.runCommand_of_decode_error he, Machine.runCommand_of_decode_error hw]

/-- Settles O14: the decoder run on each of the twelve words. -/
theorem sampleWordsDecode : Obligations.SampleWordsDecode := by
  unfold Obligations.SampleWordsDecode
  decide

/-! ### The opcode map -/

/-- The position of the instruction's row in the opcode map. -/
def Instr.rowIndex : Instr → Fin 15
  | .nop => 0
  | .init => 1
  | .enc => 2
  | .rdstat => 3
  | .wrl _ => 4
  | .wrr _ => 5
  | .xorl _ => 6
  | .xorr _ => 7
  | .rdl => 8
  | .rdr => 9
  | .wrp _ _ => 10
  | .xorp _ _ => 11
  | .rdp _ => 12
  | .wrs _ _ _ => 13
  | .rds _ _ => 14

/-- The instruction's row of the opcode map. -/
def Instr.row (i : Instr) : OpcodeRow := opcodeRows[i.rowIndex.val]'i.rowIndex.isLt

theorem Instr.row_mem (i : Instr) : i.row ∈ opcodeRows := List.getElem_mem _

theorem Instr.row_mnemonic (i : Instr) : i.row.mnemonic = i.mnemonic := by cases i <;> rfl

/-- No mnemonic names two rows. -/
theorem eq_of_mnemonic_eq :
    ∀ p ∈ opcodeRows, ∀ q ∈ opcodeRows, p.mnemonic = q.mnemonic → p = q := by decide

/-- Masking away the low `k` bits leaves the word down to a multiple of `2 ^ k`. -/
theorem toNat_and_highMask (cw : CmdWord) (k : Nat) :
    (cw &&& (BitVec.allOnes 16 <<< k)).toNat = cw.toNat / 2 ^ k * 2 ^ k := by
  have hshift : cw &&& (BitVec.allOnes 16 <<< k) = (cw >>> k) <<< k := by
    refine BitVec.eq_of_getLsbD_eq fun n hn => ?_
    by_cases hk : n < k
    · simp [hk]
    · have hones : (BitVec.allOnes 16).getLsbD (n - k) = true := by simp [-BitVec.reduceAllOnes]; omega
      rw [BitVec.getLsbD_and, BitVec.getLsbD_shiftLeft, BitVec.getLsbD_shiftLeft, BitVec.getLsbD_ushiftRight, hones]
      simp [hk, hn, Nat.add_sub_cancel' (Nat.le_of_not_lt hk)]
  have hle : cw.toNat / 2 ^ k * 2 ^ k < 2 ^ 16 := (Nat.div_mul_le_self _ _).trans_lt cw.isLt
  rw [hshift, BitVec.toNat_shiftLeft, BitVec.toNat_ushiftRight, Nat.shiftRight_eq_div_pow, Nat.shiftLeft_eq,
    Nat.mod_eq_of_lt hle]

/-- Membership in a row whose mask leaves the low `k` bits free, by the number of the word. -/
theorem rowHas_iff {p : OpcodeRow} {k : Nat} (hmask : p.mask = BitVec.allOnes 16 <<< k) (cw : CmdWord) :
    rowHas p cw = true ↔
      cw.toNat / 2 ^ k * 2 ^ k = p.pattern.toNat ∧ (p.hasPIdx = true → cw.toNat % 32 < 18) := by
  rw [← toNat_and_highMask, ← hmask, ← BitVec.toNat_eq, ← pidxField_toNat]
  cases hp : p.hasPIdx <;> simp [rowHas, hp, PIdx.legal]

/-- A word of a format-N row decodes to the row's command. -/
theorem decode_of_rowHas_formatN {op : Nat} (hop : op ≤ 9) {m : String} {c : Command}
    (h : rowHas ⟨m, BitVec.ofNat 16 (4096 * op), 0xFFFF, false⟩ c.cw = true) : decode c = nCommand op c.wdata := by
  have hcw : c.cw = BitVec.ofNat 16 (4096 * op) := by
    obtain ⟨hn, -⟩ := (rowHas_iff (k := 0) rfl c.cw).mp h
    exact BitVec.eq_of_toNat_eq (by simpa using hn)
  have hdec := decode_formatN hop c.wdata
  rwa [← hcw] at hdec

/-- A word of a format-P row decodes to the row's command on the index of its field. -/
theorem decode_of_rowHas_formatP {op : Nat} (hlo : 10 ≤ op) (hhi : op ≤ 12) {m : String} {c : Command}
    (h : rowHas ⟨m, BitVec.ofNat 16 (4096 * op), 0xFFE0, true⟩ c.cw = true) :
    decode c = pCommand op (pidxField c.cw) c.wdata := by
  obtain ⟨hn, hi⟩ := (rowHas_iff (k := 5) rfl c.cw).mp h
  have hcw : c.cw = formatP op (pidxField c.cw) := by
    refine BitVec.eq_of_toNat_eq ?_
    rw [formatP_toNat (by omega), pidxField_toNat]
    simp only [BitVec.toNat_ofNat] at hn
    omega
  have hdec := decode_formatP hlo hhi (by rw [pidxField_toNat]; exact hi rfl) c.wdata
  rwa [← hcw] at hdec

/-- A word of a format-S row decodes to the row's command on the box and the entry of its fields. -/
theorem decode_of_rowHas_formatS {op : Nat} (hlo : 13 ≤ op) (hhi : op ≤ 14) {m : String} {c : Command}
    (h : rowHas ⟨m, BitVec.ofNat 16 (4096 * op), 0xFC00, false⟩ c.cw = true) :
    decode c = sCommand op (boxField c.cw) (entField c.cw) c.wdata := by
  obtain ⟨hn, -⟩ := (rowHas_iff (k := 10) rfl c.cw).mp h
  have hcw : c.cw = formatS op (boxField c.cw) (entField c.cw) := by
    refine BitVec.eq_of_toNat_eq ?_
    rw [formatS_toNat (by omega), boxField_toNat, entField_toNat]
    simp only [BitVec.toNat_ofNat] at hn
    omega
  have hdec := decode_formatS hlo hhi (boxField c.cw) (entField c.cw) c.wdata
  rwa [← hcw] at hdec

/-- A word of a row decodes to an instruction with the row's mnemonic, row by row. -/
theorem exists_decode_of_rowHas {p : OpcodeRow} (hp : p ∈ opcodeRows) {c : Command} (h : rowHas p c.cw = true) :
    ∃ i, decode c = .ok i ∧ i.mnemonic = p.mnemonic := by
  simp only [opcodeRows, List.mem_cons, List.not_mem_nil, or_false] at hp
  rcases hp with rfl | rfl | rfl | rfl | rfl | rfl | rfl | rfl | rfl | rfl | rfl | rfl | rfl | rfl | rfl
  · exact ⟨_, decode_of_rowHas_formatN (op := 0) (by decide) h, rfl⟩
  · exact ⟨_, decode_of_rowHas_formatN (op := 1) (by decide) h, rfl⟩
  · exact ⟨_, decode_of_rowHas_formatN (op := 2) (by decide) h, rfl⟩
  · exact ⟨_, decode_of_rowHas_formatN (op := 3) (by decide) h, rfl⟩
  · exact ⟨_, decode_of_rowHas_formatN (op := 4) (by decide) h, rfl⟩
  · exact ⟨_, decode_of_rowHas_formatN (op := 5) (by decide) h, rfl⟩
  · exact ⟨_, decode_of_rowHas_formatN (op := 6) (by decide) h, rfl⟩
  · exact ⟨_, decode_of_rowHas_formatN (op := 7) (by decide) h, rfl⟩
  · exact ⟨_, decode_of_rowHas_formatN (op := 8) (by decide) h, rfl⟩
  · exact ⟨_, decode_of_rowHas_formatN (op := 9) (by decide) h, rfl⟩
  · exact ⟨_, decode_of_rowHas_formatP (op := 10) (by decide) (by decide) h, rfl⟩
  · exact ⟨_, decode_of_rowHas_formatP (op := 11) (by decide) (by decide) h, rfl⟩
  · exact ⟨_, decode_of_rowHas_formatP (op := 12) (by decide) (by decide) h, rfl⟩
  · exact ⟨_, decode_of_rowHas_formatS (op := 13) (by decide) (by decide) h, rfl⟩
  · exact ⟨_, decode_of_rowHas_formatS (op := 14) (by decide) (by decide) h, rfl⟩

/-- A row whose mask leaves no bit free and that has no P index holds its pattern. -/
theorem rowHas_pattern {p : OpcodeRow} (hmask : p.mask = BitVec.allOnes 16 <<< 0) (hp : p.hasPIdx = false) :
    rowHas p p.pattern = true :=
  (rowHas_iff hmask _).mpr ⟨by simp, by simp [hp]⟩

theorem rowHas_formatP {op : Nat} (hop : op < 16) (m : String) {i : PIdx} (hi : i.toNat < 18) :
    rowHas ⟨m, BitVec.ofNat 16 (4096 * op), 0xFFE0, true⟩ (formatP op i) = true := by
  refine (rowHas_iff (k := 5) rfl _).mpr ⟨?_, fun _ => ?_⟩
  all_goals
    simp only [formatP_toNat hop, BitVec.toNat_ofNat]
    omega

theorem rowHas_formatS {op : Nat} (hop : op < 16) (m : String) (b : BoxIdx) (j : EntIdx) :
    rowHas ⟨m, BitVec.ofNat 16 (4096 * op), 0xFC00, false⟩ (formatS op b j) = true := by
  have hb := b.isLt
  have hj := j.isLt
  refine (rowHas_iff (k := 10) rfl _).mpr ⟨?_, nofun⟩
  simp only [formatS_toNat hop, BitVec.toNat_ofNat]
  omega

/-- The word of an instruction belongs to the instruction's row. -/
theorem rowHas_row_encode {i : Instr} (hwf : i.wellFormed = true) : rowHas i.row (encode i).cw = true := by
  cases i with
  | wrp k _ => exact rowHas_formatP (op := 10) (by decide) _ (of_decide_eq_true hwf)
  | xorp k _ => exact rowHas_formatP (op := 11) (by decide) _ (of_decide_eq_true hwf)
  | rdp k => exact rowHas_formatP (op := 12) (by decide) _ (of_decide_eq_true hwf)
  | wrs b j _ => exact rowHas_formatS (op := 13) (by decide) _ b j
  | rds b j => exact rowHas_formatS (op := 14) (by decide) _ b j
  | nop | init | enc | rdstat | wrl | wrr | xorl | xorr | rdl | rdr => exact rowHas_pattern rfl rfl

/-- Every row's mask covers the operation field, so a word of the row has the operation field of the row's pattern. -/
theorem opBits_of_rowHas {p : OpcodeRow} (hp : p ∈ opcodeRows) {cw : CmdWord} (h : rowHas p cw = true) :
    cw &&& 0xF000 = p.pattern &&& 0xF000 := by
  have hmask : ∀ q ∈ opcodeRows, q.mask &&& 0xF000 = 0xF000 := by decide
  have hand : cw &&& p.mask = p.pattern := by simp_all [rowHas]
  rw [← hand, BitVec.and_assoc, hmask p hp]

/-- No two rows of the opcode map share an operation field. -/
theorem opcodeRows_opBits_pairwise :
    opcodeRows.Pairwise fun p q => p.pattern &&& 0xF000 ≠ q.pattern &&& 0xF000 := by decide

/-- Settles O18: rows are disjoint by the operation field; a word of a row decodes to the row's command, and what
decodes to an instruction is the instruction's word, which its row has. -/
theorem decoderAgreesWithOpcodeMap : Obligations.DecoderAgreesWithOpcodeMap := by
  refine ⟨opcodeRows_opBits_pairwise.imp_of_mem fun hp hq hne cw ⟨hpcw, hqcw⟩ => ?_,
    fun c p hp => ⟨exists_decode_of_rowHas hp, fun ⟨i, hi, hm⟩ => ?_⟩⟩
  · exact hne ((opBits_of_rowHas hp hpcw).symm.trans (opBits_of_rowHas hq hqcw))
  · obtain ⟨hwf, hcw, -⟩ := legalCommandHasOneEncoding c i hi
    obtain rfl : i.row = p := eq_of_mnemonic_eq _ i.row_mem _ hp (i.row_mnemonic.trans hm)
    exact hcw ▸ rowHas_row_encode hwf

end Sys2Proof
end

section
/-! PROOFS. Reset, the host's moves, and the invariants of a step (70_reset_and_hazards.md, 10_state.md section 4). -/

namespace Sys2Proof.Machine

/-! ### What a step does, turn by turn -/

/-- `s` with its first offered command taken from the channel, which leaves `rest`, and the turn used up. -/
def State.accepted (rest : List Command) (s : State) : State := { s with offered := rest, turns := s.turns.tail }

@[simp] theorem State.accepted_status (rest : List Command) (s : State) : (s.accepted rest).status = s.status := rfl

theorem step_of_commandMovesNext {s : State} (h : CommandMovesNext s) :
    step s = commandTurn { s with turns := s.turns.tail } := by
  obtain ⟨P, S, L, R, st, off, pend, del, turns, n⟩ := s
  obtain rfl | ⟨ts, rfl⟩ := h <;> rfl

theorem step_take {s : State} {ts : List Turn} (h : s.turns = .take :: ts) :
    step s = .next (takeResponse { s with turns := ts }) := by simp [step, h]

theorem step_reset {s : State} {ts : List Turn} (h : s.turns = .reset :: ts) :
    step s = .next (State.resetWith (Config.resetDraw s.resets) (s.resets + 1) s.offered ts) := by
  simp [step, h, hostReset]

theorem step_of_acceptCommand_none {s : State} (h : CommandMovesNext s)
    (hacc : acceptCommand { s with turns := s.turns.tail } = none) :
    step s = .next { s with turns := s.turns.tail } := by
  rw [step_of_commandMovesNext h, commandTurn, hacc]

/-- A ready core runs the first offered command (30_encoding.md R51). -/
theorem step_of_ready {s : State} (h : CommandMovesNext s) {c : Command} {rest : List Command}
    (ho : s.offered = c :: rest) (hr : cmdReady s = true) : step s = runCommand c (s.accepted rest) := by
  have hacc := acceptCommand_ready (s := { s with turns := s.turns.tail }) ho hr
  rw [step_of_commandMovesNext h, commandTurn, hacc]
  rfl

theorem acceptCommand_of_not_ready {s : State} (h : cmdReady s = false) : acceptCommand s = none := by
  unfold acceptCommand
  split
  · rfl
  · simp [h]

/-! ### Inversion of a step -/

/-- Everything one issued command can do: it is executed, with status `OK`, or answered as illegal. -/
theorem runCommand_cases (c : Command) (s : State) :
    ∃ t, runCommand c s = .next t ∧
      ((∃ i rd, decode c = .ok i ∧ DataMove i s t ∧ Answered s t ⟨.ok, rd⟩) ∨
        ∃ e, decode c = .error e ∧ IllegalEffect e s t) := by
  cases hd : decode c with
  | error e => exact ⟨_, runCommand_of_decode_error hd s, .inr ⟨e, rfl, takeIllegal_effect e s⟩⟩
  | ok i =>
    obtain ⟨hwf, -⟩ := legalCommandHasOneEncoding c i hd
    obtain ⟨t, rd, ht, hmove, hans⟩ | ⟨hill, -⟩ := exec_cases i s
    · exact ⟨t, (runCommand_of_decode_ok hd s).trans ht, .inl ⟨i, rd, rfl, hmove, hans⟩⟩
    · exact absurd hwf (by simp [hill])

/-- Everything a step from `s` to `t` can have done. -/
inductive StepMove (s t : State) : Prop where
  /-- The command channel moved and no command was accepted, or no response was pending to be taken. -/
  | idle (h : t = { s with turns := s.turns.tail })
  | took (r : Response) (rest : List Response) (hp : s.pending = r :: rest)
      (h : t = { s with turns := s.turns.tail, pending := rest, delivered := s.delivered ++ [r] })
  | reset (ts : List Turn) (hts : s.turns = .reset :: ts) (h : t = hostReset { s with turns := ts })
  | executed (c : Command) (rest : List Command) (i : Instr) (rd : Word) (ho : s.offered = c :: rest)
      (hr : cmdReady s = true) (hd : decode c = .ok i) (hm : DataMove i (s.accepted rest) t)
      (ha : Answered (s.accepted rest) t ⟨.ok, rd⟩)
  | rejected (c : Command) (rest : List Command) (e : Illegal) (ho : s.offered = c :: rest)
      (hr : cmdReady s = true) (hd : decode c = .error e) (he : IllegalEffect e (s.accepted rest) t)

theorem exists_stepMove (s : State) : ∃ t, step s = .next t ∧ StepMove s t := by
  obtain ⟨c, s0, hacc, hs, -⟩ | ⟨-, hs, -⟩ | ⟨ts, hts, hs⟩ | ⟨ts, hts, hs⟩ := step_cases s
  · obtain ⟨rest, ho, hr, rfl⟩ := acceptCommand_some hacc
    obtain ⟨t, ht, ⟨i, rd, hd, hm, ha⟩ | ⟨e, hd, he⟩⟩ := runCommand_cases c (s.accepted rest)
    · exact ⟨t, hs.trans ht, .executed c rest i rd ho hr hd hm ha⟩
    · exact ⟨t, hs.trans ht, .rejected c rest e ho hr hd he⟩
  · exact ⟨_, hs, .idle rfl⟩
  · obtain ⟨-, ht⟩ | ⟨r, rest, hp, ht⟩ := takeResponse_cases { s with turns := ts }
    · exact ⟨_, hs, .idle (by rw [ht, hts]; rfl)⟩
    · exact ⟨_, hs, .took r rest hp (by rw [ht, hts]; rfl)⟩
  · exact ⟨_, hs, .reset ts hts rfl⟩

theorem stepMove_of_step {s t : State} (h : step s = .next t) : StepMove s t := by
  obtain ⟨t', ht', hmove⟩ := exists_stepMove s
  obtain rfl : t' = t := by injection ht'.symm.trans h
  exact hmove

/-- Settles O6: each of the moves of a step has a next state. -/
theorem noStateStopsTheCore : Obligations.NoStateStopsTheCore := fun s =>
  (exists_stepMove s).imp fun _ h => h.1

/-! ### What an answered command adds to the responses, and what it does to `STATUS` -/

/-- An accepted command puts its response behind those of the run. -/
theorem answers_of_answered {s t : State} {rest : List Command} {r : Response}
    (h : Answered (s.accepted rest) t r) : t.answers = s.answers ++ [r] := by
  obtain ⟨hpend, -, hdel, -⟩ := h
  rw [State.answers, hpend, hdel, State.answers, List.append_assoc]
  rfl

/-- No executed command writes the error record. -/
theorem DataMove.errorRecord_eq {i : Instr} {s t : State} (h : DataMove i s t) :
    t.status.ERR = s.status.ERR ∧ t.status.ECODE = s.status.ECODE := by
  cases h with
  | none _ hs | left _ _ hs | right _ _ hs | enc _ _ _ hs | pWord _ _ _ _ _ _ hs | sWord _ _ _ _ _ _ hs =>
    rw [hs]; exact ⟨rfl, rfl⟩
  | init _ _ hs => rw [hs]; exact ⟨rfl, rfl⟩

/-- Of the executed commands `INIT` writes `INITD`, and sets it. -/
theorem DataMove.initd_eq {i : Instr} {s t : State} (h : DataMove i s t) :
    t.status.INITD = s.status.INITD ∨ (i = .init ∧ t.status.INITD = true) := by
  cases h with
  | none _ hs | left _ _ hs | right _ _ hs | enc _ _ _ hs | pWord _ _ _ _ _ _ hs | sWord _ _ _ _ _ _ hs =>
    exact .inl (by rw [hs])
  | init hi _ hs => exact .inr ⟨hi, by rw [hs]; rfl⟩

/-! ### The machine's invariant -/

/-- A ready core keeps the invariant over a command that leaves `STATUS` legal and is answered legally: the bound on the
pending responses is what being ready says. -/
theorem inv_of_answered {s t : State} {rest : List Command} {r : Response} (hinv : s.Inv) (hr : cmdReady s = true)
    (ha : Answered (s.accepted rest) t r) (hst : t.status.Legal) (hlegal : r.Legal) : t.Inv := by
  obtain ⟨-, hans, -⟩ := hinv
  refine ⟨hst, ?_, ?_⟩
  · rw [answers_of_answered ha]
    exact fun q hq => (List.mem_append.mp hq).elim (hans q) fun h => List.mem_singleton.mp h ▸ hlegal
  · obtain ⟨hpend, -⟩ := ha
    rw [hpend, List.length_append]
    exact Nat.add_le_add_right (cmdReady_bound hr) 1

theorem legal_of_reset : (⟨false, false, 0⟩ : Status).Legal := by decide

/-- `STATUS` is legal after an illegal command: `ERR` is set, and `ECODE` holds the old code of a set `ERR` or the new
one, neither of them zero. -/
theorem legal_of_illegalEffect {e : Illegal} {s t : State} (h : IllegalEffect e s t) (hs : s.status.Legal) :
    t.status.Legal := by
  obtain ⟨herr, hcode, -⟩ := h
  refine ⟨fun _ => ?_, fun _ => herr⟩
  rw [hcode]
  split
  · next hset => exact hs.mp hset
  · exact rspCode_illegal_ne e

/-- Settles O10, by the moves of a step. -/
theorem everyStepKeepsInvariant : Obligations.EveryStepKeepsInvariant := by
  intro s t hinv hstep
  cases stepMove_of_step hstep with
  | idle h => exact h ▸ hinv
  | took r rest hp h =>
    obtain ⟨hst, hans, hlen⟩ := hinv
    have hanswers : t.answers = s.answers := by simp [h, State.answers, hp]
    rw [hp, List.length_cons] at hlen
    exact ⟨h ▸ hst, hanswers ▸ hans, h ▸ Nat.le_of_succ_le hlen⟩
  | reset ts _ h => exact h ▸ ⟨legal_of_reset, nofun, Nat.zero_le _⟩
  | executed c rest i rd ho hr hd hm ha =>
    obtain ⟨herr, hcode⟩ := hm.errorRecord_eq
    have hst : t.status.Legal := by rw [Status.Legal, herr, hcode]; exact hinv.1
    exact inv_of_answered hinv hr ha hst nofun
  | rejected c rest e ho hr hd he =>
    have hst := legal_of_illegalEffect he hinv.1
    obtain ⟨-, -, -, -, -, -, ha⟩ := he
    exact inv_of_answered hinv hr ha hst fun _ => rfl

/-! ### `STATUS` as the record of the responses -/

/-- One more response: the code of the first error stays, or, with no error before, is the code of the response. -/
theorem firstErrorCode_concat (l : List Response) (r : Response) :
    firstErrorCode (l ++ [r]) =
      if l.any (fun q => decide (q.status ≠ .ok)) then firstErrorCode l else rspCode r.status := by
  induction l with
  | nil => simp +contextual [firstErrorCode]
  | cons q l ih => by_cases hq : q.status = .ok <;> simp [firstErrorCode, rspCode_eq_zero_iff, hq, ih]

theorem firstErrorCode_eq_zero {l : List Response} (h : l.any (fun q => decide (q.status ≠ .ok)) = false) :
    firstErrorCode l = 0 := by
  induction l with
  | nil => rfl
  | cons q l ih => simp_all [firstErrorCode, rspCode_eq_zero_iff]

/-- The record stays right over a response with status `OK` if `ERR` and `ECODE` stay. -/
theorem statusRecords_of_ok {s t : State} {rd : Word} (hrec : s.StatusRecords)
    (hans : t.answers = s.answers ++ [⟨.ok, rd⟩]) (herr : t.status.ERR = s.status.ERR)
    (hcode : t.status.ECODE = s.status.ECODE) : t.StatusRecords := by
  obtain ⟨hrecErr, hrecCode⟩ := hrec
  refine ⟨by rw [herr, hrecErr, hans]; simp, ?_⟩
  rw [hcode, hrecCode, hans, firstErrorCode_concat]
  split
  · rfl
  · next hnone => exact firstErrorCode_eq_zero (by simpa using hnone)

/-- The record stays right over an illegal command. -/
theorem statusRecords_of_illegalEffect {e : Illegal} {s t : State} {rest : List Command} (hrec : s.StatusRecords)
    (h : IllegalEffect e (s.accepted rest) t) : t.StatusRecords := by
  obtain ⟨hrecErr, hrecCode⟩ := hrec
  obtain ⟨herr, hcode, -, -, -, -, ha⟩ := h
  have hans := answers_of_answered ha
  refine ⟨by rw [herr, hans]; simp, ?_⟩
  rw [hcode, State.accepted_status, hrecErr, hrecCode, hans, firstErrorCode_concat]

/-- Settles O11, by the moves of a step. -/
theorem everyStepKeepsErrorRecord : Obligations.EveryStepKeepsErrorRecord := by
  intro s t hrec hstep
  cases stepMove_of_step hstep with
  | idle h => exact h ▸ hrec
  | took r rest hp h =>
    have hanswers : t.answers = s.answers := by simp [h, State.answers, hp]
    have hst : t.status = s.status := by rw [h]
    rwa [State.StatusRecords, hanswers, hst]
  | reset ts _ h => exact h ▸ ⟨rfl, rfl⟩
  | executed c rest i rd ho hr hd hm ha =>
    obtain ⟨herr, hcode⟩ := hm.errorRecord_eq
    exact statusRecords_of_ok hrec (answers_of_answered ha) herr hcode
  | rejected c rest e ho hr hd he => exact statusRecords_of_illegalEffect hrec he

/-- Settles O9: after power-on no response stands on record, and `STATUS` is zero. -/
theorem powerOnStateMeetsInvariants : Obligations.PowerOnStateMeetsInvariants :=
  ⟨⟨legal_of_reset, nofun, Nat.zero_le _⟩, rfl, rfl⟩

/-- Settles O12: only a rejected command sets `ERR`, and it writes `ECODE` only where `ERR` was clear. -/
theorem errorRecordIsSticky : Obligations.ErrorRecordIsSticky := by
  intro s t hstep hnoReset
  have unset (herr : t.status.ERR = s.status.ERR) (hclear : s.status.ERR = false) : t.status.ERR ≠ true := by
    simp [herr, hclear]
  cases stepMove_of_step hstep with
  | idle h | took _ _ _ h =>
    have hst : t.status = s.status := by rw [h]
    exact ⟨fun hset => ⟨hst ▸ hset, by rw [hst]⟩, fun hclear hset => absurd hset (unset (by rw [hst]) hclear)⟩
  | reset ts hts _ => exact absurd hts (hnoReset ts)
  | executed c rest i rd ho hr hd hm ha =>
    obtain ⟨herr, hcode⟩ := hm.errorRecord_eq
    exact ⟨fun hset => ⟨herr.trans hset, hcode⟩, fun hclear hset => absurd hset (unset herr hclear)⟩
  | rejected c rest e ho hr hd he =>
    obtain ⟨herr, hcode, -, -, -, -, -, hoff, -⟩ := he
    rw [State.accepted_status] at hcode
    exact ⟨fun hset => ⟨herr, hcode.trans (if_pos hset)⟩,
      fun hclear _ => ⟨c, rest, e, ho, hoff, hd, hcode.trans (if_neg (by simp [hclear]))⟩⟩

/-- Settles O13: of all moves but reset only an executed `INIT` writes `INITD`. -/
theorem initdIsSetByInitOnly : Obligations.InitdIsSetByInitOnly := by
  intro s t hstep hnoReset
  have same (h : t.status.INITD = s.status.INITD) :
      (s.status.INITD = true → t.status.INITD = true) ∧
        (s.status.INITD = false → t.status.INITD = true →
          ∃ c rest, s.offered = c :: rest ∧ t.offered = rest ∧ decode c = .ok .init) :=
    ⟨h.trans, fun hclear hset => absurd (h.symm.trans hset) (by simp [hclear])⟩
  cases stepMove_of_step hstep with
  | idle h | took _ _ _ h => exact same (by rw [h])
  | reset ts hts _ => exact absurd hts (hnoReset ts)
  | executed c rest i rd ho hr hd hm ha =>
    obtain heq | ⟨rfl, hset⟩ := hm.initd_eq
    · exact same heq
    · obtain ⟨-, hoff, -⟩ := ha
      exact ⟨fun _ => hset, fun _ _ => ⟨c, rest, ho, hoff, hd⟩⟩
  | rejected c rest e ho hr hd he =>
    obtain ⟨-, -, hinitd, -⟩ := he
    exact same hinitd

/-- Settles O5, by the moves of a step: an executed and a rejected command add one response, taking one only moves it
from the pending to the delivered ones. -/
theorem oneResponsePerCommandInOrder : Obligations.OneResponsePerCommandInOrder := by
  intro s t hstep hnoReset
  have answered {c : Command} {rest : List Command} {r : Response} (ho : s.offered = c :: rest)
      (ha : Answered (s.accepted rest) t r) :
      ((t.answers = s.answers ∧ t.offered = s.offered) ∨
        ∃ c r, s.offered = c :: t.offered ∧ t.answers = s.answers ++ [r] ∧ t.delivered = s.delivered) ∧
      s.delivered <+: t.delivered := by
    have hans := answers_of_answered ha
    obtain ⟨-, hoff, hdel, -⟩ := ha
    exact ⟨.inr ⟨c, r, hoff ▸ ho, hans, hdel⟩, hdel ▸ ⟨[], List.append_nil _⟩⟩
  cases stepMove_of_step hstep with
  | idle h => exact h ▸ ⟨.inl ⟨rfl, rfl⟩, [], List.append_nil _⟩
  | took r rest hp h => exact h ▸ ⟨.inl ⟨by simp [State.answers, hp], rfl⟩, [r], rfl⟩
  | reset ts hts _ => exact absurd hts (hnoReset ts)
  | executed c rest i rd ho hr hd hm ha => exact answered ho ha
  | rejected c rest e ho hr hd he =>
    obtain ⟨-, -, -, -, -, -, ha⟩ := he
    exact answered ho ha

/-! ### Reset -/

theorem statusWord_zero : statusWord ⟨false, false, 0⟩ = 0 := by decide

/-- A reset ends with `STATUS` zero, nothing pending and the core ready, whatever the draw. -/
theorem resetWith_clears (draw : Nat → Word) (n : Nat) (off : List Command) (ts : List Turn) :
    (State.resetWith draw n off ts).status = ⟨false, false, 0⟩ ∧
      statusWord (State.resetWith draw n off ts).status = 0 ∧ (State.resetWith draw n off ts).pending = [] ∧
      cmdReady (State.resetWith draw n off ts) = true := by
  have hstatus := State.resetWith_status draw n off ts
  have hpending := State.resetWith_pending draw n off ts
  exact ⟨hstatus, by rw [hstatus, statusWord_zero], hpending, cmdReady_of_none_pending hpending⟩

/-- Settles O1: a reset turn ends in a state that `resetWith` gives, and the power-on state is one. -/
theorem resetClearsStatusAndResponses : Obligations.ResetClearsStatusAndResponses := by
  refine ⟨fun s ts h => ?_, ?_⟩
  · obtain ⟨hstatus, hword, hpending, hready⟩ :=
      resetWith_clears (Config.resetDraw s.resets) (s.resets + 1) s.offered ts
    exact ⟨_, step_reset h, hstatus, hword, hpending, hready, State.resetWith_offered .., State.resetWith_turns ..⟩
  · obtain ⟨hstatus, hword, hpending, hready⟩ := resetWith_clears (Config.resetDraw 0) 1 [] []
    exact ⟨hstatus, hword, hpending, State.resetWith_offered .., hready⟩

/-- Settles O2: the state in which a reset ends takes from the old one only the offered commands, the turns and the
number of earlier resets. -/
theorem resetForgetsEverything : Obligations.ResetForgetsEverything := by
  intro s s' ts hts hturns hoff hresets
  refine ⟨_, step_reset hts, ?_⟩
  rw [step_reset (hturns.trans hts), hoff, hresets]

/-! ### The command channel -/

/-- Settles O3: with nothing offered no command is accepted. -/
theorem idleCoreExecutesNothing : Obligations.IdleCoreExecutesNothing := fun s h ho =>
  step_of_acceptCommand_none h (by simp [acceptCommand, ho])

/-- Settles O4: a core that is not ready accepts nothing, and one with more than `Config.earlyAccepts` responses
pending is not ready. -/
theorem untakenResponsesStallWithoutLoss : Obligations.UntakenResponsesStallWithoutLoss := by
  refine ⟨fun s h hr => ?_, fun s ts r rest hts hp => ?_, ⟨Config.earlyAccepts, fun s hlt => ?_⟩,
    fun s => cmdReady_of_none_pending⟩
  · exact step_of_acceptCommand_none h (acceptCommand_of_not_ready hr)
  · simp [step_take hts, takeResponse, hp]
  · exact Bool.eq_false_iff.mpr fun hr => absurd (cmdReady_bound hr) (Nat.not_le.mpr hlt)

/-- Settles O7: a ready core runs the command, and what decodes is well formed. -/
theorem stepRunsDecodedCommand : Obligations.StepRunsDecodedCommand := by
  intro s c rest i h ho hr hd
  obtain ⟨hwf, -⟩ := legalCommandHasOneEncoding c i hd
  exact ⟨hwf, (step_of_ready h ho hr).trans (runCommand_of_decode_ok hd _)⟩

/-- Settles O8: a ready core runs the command, which is answered by `takeIllegal`. -/
theorem stepAnswersIllegalCommand : Obligations.StepAnswersIllegalCommand := fun s _ rest e h ho hr hd =>
  ⟨_, (step_of_ready h ho hr).trans (runCommand_of_decode_error hd _), takeIllegal_effect e (s.accepted rest)⟩

end Sys2Proof.Machine
end

section
/-! PROOFS. The cipher (41_encrypt.md) and the table of `INIT` (40_init.md section 2). -/

namespace Sys2Proof.Machine

/-! ### The constants -/

/-- Settles O25: the ten sums and XORs, computed. -/
theorem initialConstantsMeetTheChecks : Obligations.InitialConstantsMeetTheChecks := by
  unfold Obligations.InitialConstantsMeetTheChecks
  decide +kernel

/-! ### The round function -/

theorem byte3_toFin (x : Word) : (byte3 x).toFin = Fin.ofNat 256 (x.toNat / 2 ^ 24) :=
  Fin.ext (by simp [byte3, Nat.shiftRight_eq_div_pow])

theorem byte2_toFin (x : Word) : (byte2 x).toFin = Fin.ofNat 256 (x.toNat / 2 ^ 16) :=
  Fin.ext (by simp [byte2, Nat.shiftRight_eq_div_pow])

theorem byte1_toFin (x : Word) : (byte1 x).toFin = Fin.ofNat 256 (x.toNat / 2 ^ 8) :=
  Fin.ext (by simp [byte1, Nat.shiftRight_eq_div_pow])

theorem byte0_toFin (x : Word) : (byte0 x).toFin = Fin.ofNat 256 x.toNat :=
  Fin.ext (by simp [byte0])

/-- Settles O27: the four bytes as numbers, then the numbers of the two sums and of the XOR. -/
theorem roundFunctionValue : Obligations.RoundFunctionValue := by
  intro S x
  rw [roundF, byte3_toFin, byte2_toFin, byte1_toFin, byte0_toFin, BitVec.toNat_add, BitVec.toNat_xor, BitVec.toNat_add]

/-! ### `EncryptBlock` as a recurrence -/

/-- A fold over a list steps along any sequence whose elements the list's elements take one to the next. -/
theorem foldl_eq_of_steps {α β : Type} {f : β → α → β} (l : List α) (z : Nat → β)
    (h : ∀ (i : Nat) (hi : i < l.length), z (i + 1) = f (z i) l[i]) : l.foldl f (z 0) = z l.length := by
  induction l generalizing z with
  | nil => rfl
  | cons a l ih =>
    have hfirst : z 1 = f (z 0) a := h 0 (Nat.zero_lt_succ _)
    rw [List.foldl_cons, ← hfirst]
    exact ih (fun n => z (n + 1)) fun i hi => h (i + 1) (Nat.succ_lt_succ hi)

/-- The pairs of halves `(x n, y n)` run through the rounds of 41_encrypt.md R81 on these tables. -/
def RunsRounds (P : PArray) (S : SBoxes) (x y : Nat → Word) : Prop :=
  ∀ (i : Nat) (h : i < 16),
    y (i + 1) = x i ^^^ readP P ⟨i, by omega⟩ ∧ x (i + 1) = y i ^^^ roundF S (x i ^^^ readP P ⟨i, by omega⟩)

theorem roundOrder_getElem : ∀ (i : Nat) (h : i < 16), roundOrder[i] = ⟨i, by omega⟩ := by decide

/-- The last pair of sixteen rounds, finished, is `EncryptBlock` of the first. -/
theorem encryptBlock_of_runsRounds {P : PArray} {S : SBoxes} {x y : Nat → Word} (h : RunsRounds P S x y) :
    encryptBlock P S (x 0, y 0) = (y 16 ^^^ readP P 17, x 16 ^^^ readP P 16) := by
  have hfold := foldl_eq_of_steps (f := feistelRound P S) roundOrder (fun n => (x n, y n)) fun i hi => by
    obtain ⟨hy, hx⟩ := h i hi
    rw [roundOrder_getElem i hi, hx, hy]
    rfl
  rw [encryptBlock, hfold]
  rfl

/-- The pair after `n` rounds; the rounds beyond the sixteen use some P word and serve no statement. -/
def pairAfter (P : PArray) (S : SBoxes) (lr : Word × Word) : Nat → Word × Word
  | 0 => lr
  | n + 1 => feistelRound P S (pairAfter P S lr n) (Fin.ofNat 18 n)

theorem runsRounds_pairAfter (P : PArray) (S : SBoxes) (lr : Word × Word) :
    RunsRounds P S (fun n => (pairAfter P S lr n).1) (fun n => (pairAfter P S lr n).2) := by
  intro i h
  have hi : (⟨i, by omega⟩ : Fin 18) = Fin.ofNat 18 i := Fin.ext (Nat.mod_eq_of_lt (by omega)).symm
  rw [hi]
  exact ⟨rfl, rfl⟩

/-- Settles O28: the halves after each round. -/
theorem encryptBlockIsSixteenRounds : Obligations.EncryptBlockIsSixteenRounds := by
  intro P S l r
  have hrounds := runsRounds_pairAfter P S (l, r)
  have henc := encryptBlock_of_runsRounds hrounds
  exact ⟨fun n => (pairAfter P S (l, r) n).1, fun n => (pairAfter P S (l, r) n).2, rfl, rfl, hrounds, henc⟩

/-! ### The folded form -/

/-- The halves `(xl n, xr n)` after the assignment that uses `P[n]` run through the folded form of 41_encrypt.md R84:
odd steps assign `xr`, even ones `xl`. -/
structure RunsFolded (P : PArray) (S : SBoxes) (xl xr : Nat → Word) : Prop where
  intoRight (n : Nat) (h : n < 16) : n % 2 = 0 →
    xr (n + 1) = xr n ^^^ (roundF S (xl n) ^^^ readP P ⟨n + 1, by omega⟩) ∧ xl (n + 1) = xl n
  intoLeft (n : Nat) (h : n < 16) : n % 2 = 1 →
    xl (n + 1) = xl n ^^^ (roundF S (xr n) ^^^ readP P ⟨n + 1, by omega⟩) ∧ xr (n + 1) = xr n

/-- The folded form beside the rounds: after an even number of assignments `xl` is the left half with its P word mixed
in already, and after an odd number `xr` is. -/
theorem folded_beside_rounds {P : PArray} {S : SBoxes} {x y xl xr : Nat → Word} (hrounds : RunsRounds P S x y)
    (hfolded : RunsFolded P S xl xr) (hl : xl 0 = x 0 ^^^ readP P 0) (hr : xr 0 = y 0) (n : Nat) (hn : n ≤ 16) :
    (n % 2 = 0 → xl n = x n ^^^ readP P ⟨n, by omega⟩ ∧ xr n = y n) ∧
      (n % 2 = 1 → xr n = x n ^^^ readP P ⟨n, by omega⟩ ∧ xl n = y n) := by
  induction n with
  | zero => exact ⟨fun _ => ⟨hl, hr⟩, nofun⟩
  | succ n ih =>
    obtain ⟨ihEven, ihOdd⟩ := ih (by omega)
    obtain ⟨hy, hx⟩ := hrounds n hn
    refine ⟨fun hpar => ?_, fun hpar => ?_⟩
    · obtain ⟨hkeyed, hother⟩ := ihOdd (by omega)
      obtain ⟨hstep, hkeep⟩ := hfolded.intoLeft n hn (by omega)
      exact ⟨by rw [hstep, hkeyed, hother, hx, BitVec.xor_assoc], by rw [hkeep, hkeyed, hy]⟩
    · obtain ⟨hkeyed, hother⟩ := ihEven (by omega)
      obtain ⟨hstep, hkeep⟩ := hfolded.intoRight n hn (by omega)
      exact ⟨by rw [hstep, hkeyed, hother, hx, BitVec.xor_assoc], by rw [hkeep, hkeyed, hy]⟩

/-- The pairs of P indices that the folded loop of `encryptBlockFolded` runs through. -/
def foldedOrder : List (Fin 18 × Fin 18) :=
  [(1, 2), (3, 4), (5, 6), (7, 8), (9, 10), (11, 12), (13, 14), (15, 16)]

theorem foldedOrder_getElem :
    ∀ (m : Nat) (h : m < 8), foldedOrder[m] = (⟨2 * m + 1, by omega⟩, ⟨2 * m + 2, by omega⟩) := by decide

/-- A turn of the folded loop is two steps of the folded form. -/
theorem foldedTurn_of_runsFolded {P : PArray} {S : SBoxes} {xl xr : Nat → Word} (h : RunsFolded P S xl xr) (m : Nat)
    (hm : m < 8) :
    (xl (2 * (m + 1)), xr (2 * (m + 1))) = foldedTurn P S (xl (2 * m), xr (2 * m)) foldedOrder[m] := by
  obtain ⟨hxr, hxl⟩ := h.intoRight (2 * m) (by omega) (by omega)
  obtain ⟨hxl', hxr'⟩ := h.intoLeft (2 * m + 1) (by omega) (by omega)
  rw [foldedOrder_getElem m hm, foldedTurn]
  simp only [Nat.mul_succ, hxl', hxr', hxr, hxl, BitVec.xor_assoc]

/-- The eight turns of the folded loop, finished. -/
theorem encryptBlockFolded_of_runsFolded {P : PArray} {S : SBoxes} {l r : Word} {xl xr : Nat → Word}
    (h : RunsFolded P S xl xr) (hl : xl 0 = l ^^^ readP P 0) (hr : xr 0 = r) :
    encryptBlockFolded P S (l, r) = (xr 16 ^^^ readP P 17, xl 16) := by
  have hfold := foldl_eq_of_steps foldedOrder (fun m => (xl (2 * m), xr (2 * m))) (foldedTurn_of_runsFolded h)
  rw [encryptBlockFolded, ← hl, ← hr]
  exact congrArg (fun z : Word × Word => (z.2 ^^^ readP P 17, z.1)) hfold

/-- Settles O29: the sequences stand beside the rounds, and the folded loop makes their steps two at a time. -/
theorem foldedFormIsTheSameFunction : Obligations.FoldedFormIsTheSameFunction := by
  intro P S l r xl xr hl hr hright hleft
  have hfolded : RunsFolded P S xl xr := ⟨hright, hleft⟩
  have hrounds := runsRounds_pairAfter P S (l, r)
  have henc := encryptBlock_of_runsRounds hrounds
  obtain ⟨hlast, -⟩ := folded_beside_rounds hrounds hfolded hl hr 16 le_rfl
  obtain ⟨hxl, hxr⟩ := hlast rfl
  refine ⟨henc.trans ?_, encryptBlockFolded_of_runsFolded hfolded hl hr⟩
  rw [hxl, hxr]
  rfl

/-! ### Decryption -/

/-- Rounds with the P words in reverse order, started on the finished pair, go back through the pairs: after `n` of
them the halves are those that stood before the last `n` rounds, with the P words of two rounds still mixed in. -/
theorem reversed_rounds {P Q : PArray} {S : SBoxes} {x y a b : Nat → Word}
    (hQ : ∀ k : Fin 18, readP Q k = readP P (Fin.rev k)) (hP : RunsRounds P S x y) (hback : RunsRounds Q S a b)
    (ha : a 0 = y 16 ^^^ readP P 17) (hb : b 0 = x 16 ^^^ readP P 16) (n m : Nat) (hsum : n + m = 16) :
    a n = y m ^^^ readP P ⟨m + 1, by omega⟩ ∧ b n = x m ^^^ readP P ⟨m, by omega⟩ := by
  induction n generalizing m with
  | zero =>
    rw [Nat.zero_add] at hsum
    subst hsum
    exact ⟨ha, hb⟩
  | succ n ih =>
    obtain ⟨iha, ihb⟩ := ih (m + 1) (by omega)
    obtain ⟨hb', ha'⟩ := hback n (by omega)
    obtain ⟨hy, hx⟩ := hP m (by omega)
    have hkey : readP Q ⟨n, by omega⟩ = readP P ⟨m + 2, by omega⟩ := by
      rw [hQ]
      exact congrArg (readP P) (Fin.ext (by simp only [Fin.rev]; omega))
    have hunkeyed : a n ^^^ readP Q ⟨n, by omega⟩ = y (m + 1) := by
      rw [hkey, iha, xor_cancel_right]
    refine ⟨?_, by rw [hb', hunkeyed, hy]⟩
    calc a (n + 1) = x (m + 1) ^^^ readP P ⟨m + 1, by omega⟩ ^^^ roundF S (y (m + 1)) := by rw [ha', hunkeyed, ihb]
      _ = y m ^^^ roundF S (y (m + 1)) ^^^ (readP P ⟨m + 1, by omega⟩ ^^^ roundF S (y (m + 1))) := by
        rw [hx, ← hy, BitVec.xor_assoc]
      _ = y m ^^^ readP P ⟨m + 1, by omega⟩ := by
        rw [BitVec.xor_comm (readP P _), ← BitVec.xor_assoc, xor_cancel_right]

/-- Settles O31: after the sixteen reversed rounds only `P[0]` and `P[1]` are still mixed in, and the finish takes them
out. -/
theorem reversedSubkeysUndoEncryption : Obligations.ReversedSubkeysUndoEncryption := by
  intro P Q S hQ lr
  have hP := runsRounds_pairAfter P S lr
  have hback := runsRounds_pairAfter Q S (encryptBlock P S lr)
  have henc := encryptBlock_of_runsRounds hP
  obtain ⟨ha, hb⟩ := reversed_rounds hQ hP hback (congrArg Prod.fst henc) (congrArg Prod.snd henc) 16 0 rfl
  refine (encryptBlock_of_runsRounds hback).trans (Prod.ext ?_ ?_)
  · rw [hb, hQ 17]
    exact xor_cancel_right lr.1 (readP P 0)
  · rw [ha, hQ 16]
    exact xor_cancel_right lr.2 (readP P 1)

/-- The P words in reverse order (41_encrypt.md R86). -/
def reverseP (P : PArray) : PArray := Vector.ofFn fun k => readP P (Fin.rev k)

theorem readP_reverseP (P : PArray) (k : Fin 18) : readP (reverseP P) k = readP P (Fin.rev k) := by
  simp [reverseP, readP]

/-- Settles O30: the reversed P words give the inverse on both sides, because reversing twice changes nothing. -/
theorem encryptBlockIsBijective : Obligations.EncryptBlockIsBijective := by
  intro P S
  have hback (k : Fin 18) : readP P k = readP (reverseP P) (Fin.rev k) := by rw [readP_reverseP, Fin.rev_rev]
  exact Function.bijective_iff_has_inverse.mpr
    ⟨encryptBlock (reverseP P) S, reversedSubkeysUndoEncryption P (reverseP P) S (readP_reverseP P),
      reversedSubkeysUndoEncryption (reverseP P) P S hback⟩

/-! ### `ENC` -/

/-- Settles O26: `ENC` answers with the state `encrypt` leaves; the words of the operation field 2 are format N. -/
theorem encEncryptsInPlace : Obligations.EncEncryptsInPlace := by
  intro s
  refine ⟨⟨_, exec_enc s, rfl, ?_, rfl, answered_respond .ok 0 s.encrypt⟩,
    fun _ => runCommand_formatN (op := 2) (by decide) rfl s, rejectsArgument_of_formatN (by decide) s⟩
  exact ⟨fun _ => rfl, fun _ _ => rfl⟩

theorem roundF_of_zero_words {S : SBoxes} (h : ∀ b j, readS S b j = 0) (x : Word) : roundF S x = 0 := by
  simp [roundF, h]

/-- With F zero a round mixes the P word into the left half and exchanges the halves. -/
theorem encryptBlock_of_zero_words (P : PArray) {S : SBoxes} (h : ∀ b j, readS S b j = 0) (l r : Word) :
    encryptBlock P S (l, r) =
      (r ^^^ readP P 1 ^^^ readP P 3 ^^^ readP P 5 ^^^ readP P 7 ^^^ readP P 9 ^^^ readP P 11 ^^^ readP P 13 ^^^
          readP P 15 ^^^ readP P 17,
        l ^^^ readP P 0 ^^^ readP P 2 ^^^ readP P 4 ^^^ readP P 6 ^^^ readP P 8 ^^^ readP P 10 ^^^ readP P 12 ^^^
          readP P 14 ^^^ readP P 16) := by
  simp only [encryptBlock, roundOrder, List.foldl, feistelRound, finish, roundF_of_zero_words h,
    BitVec.ofNat_eq_ofNat, BitVec.xor_zero]

/-- Settles O32: `EncryptBlock` on zero S words, in both clauses. -/
theorem encWithZeroSBoxes : Obligations.EncWithZeroSBoxes := by
  intro s hS
  have henc := encryptBlock_of_zero_words s.P hS s.L s.R
  have hL := congrArg Prod.fst henc
  have hR := congrArg Prod.snd henc
  refine ⟨_, exec_enc s, hL, hR, fun hP => ⟨hL.trans ?_, hR.trans ?_⟩⟩
  all_goals simp only [hP, BitVec.ofNat_eq_ofNat, BitVec.xor_zero]

end Sys2Proof.Machine
end

section
/-! PROOFS. Rules about the whole command set (10_state.md, 20_memory.md sections 3 and 4, 43_table_access.md). -/

namespace Sys2Proof.Machine

/-! ### Which command writes what -/

theorem dataMove_of_exec {i : Instr} {s t : State} (hwf : i.wellFormed = true) (h : exec i s = .next t) :
    DataMove i s t := by
  obtain ⟨u, rd, hu, hmove, -⟩ | ⟨hill, -⟩ := exec_cases i s
  · obtain rfl : u = t := by injection hu.symm.trans h
    exact hmove
  · exact absurd hwf (by simp [hill])

theorem DataMove.P_cases {i : Instr} {s t : State} (h : DataMove i s t) :
    t.P = s.P ∨ i = .init ∨ ∃ (k : PIdx) (hk : k.toNat < 18) (w : Word),
      (∃ v, i = .wrp k v ∨ i = .xorp k v) ∧ t.P = writeP s.P ⟨k.toNat, hk⟩ w := by
  rcases h with ⟨⟨hP, -⟩, -⟩ | ⟨-, ⟨hP, -⟩, -⟩ | ⟨-, ⟨hP, -⟩, -⟩ | ⟨-, ⟨hP, -⟩, -, -⟩ | ⟨k, hk, w, hi, hP, -, -⟩ |
    ⟨b, j, v, -, -, ⟨hP, -⟩, -⟩ | ⟨hi, -, -⟩
  case pWord => exact .inr (.inr ⟨k, hk, w, hi, hP⟩)
  case init => exact .inr (.inl hi)
  all_goals exact .inl hP

theorem DataMove.S_cases {i : Instr} {s t : State} (h : DataMove i s t) :
    t.S = s.S ∨ i = .init ∨ ∃ b j v, i = .wrs b j v ∧ t.S = writeS s.S (boxSelect b) (entSelect j) v := by
  rcases h with ⟨⟨-, hS, -⟩, -⟩ | ⟨-, ⟨-, hS, -⟩, -⟩ | ⟨-, ⟨-, hS, -⟩, -⟩ | ⟨-, ⟨-, hS⟩, -, -⟩ |
    ⟨k, hk, w, -, -, ⟨hS, -⟩, -⟩ | ⟨b, j, v, hi, hS, -, -⟩ | ⟨hi, -, -⟩
  case sWord => exact .inr (.inr ⟨b, j, v, hi, hS⟩)
  case init => exact .inr (.inl hi)
  all_goals exact .inl hS

theorem DataMove.L_cases {i : Instr} {s t : State} (h : DataMove i s t) :
    t.L = s.L ∨ i = .enc ∨ ∃ v, i = .wrl v ∨ i = .xorl v := by
  rcases h with ⟨⟨-, -, hL, -⟩, -⟩ | ⟨hi, -, -⟩ | ⟨-, ⟨-, -, hL⟩, -⟩ | ⟨hi, -, -, -⟩ | ⟨k, hk, w, -, -, ⟨-, hL, -⟩, -⟩ |
    ⟨b, j, v, -, -, ⟨-, hL, -⟩, -⟩ | ⟨-, ⟨-, -, hL, -⟩, -⟩
  case left => exact .inr (.inr hi)
  case enc => exact .inr (.inl hi)
  all_goals exact .inl hL

theorem DataMove.R_cases {i : Instr} {s t : State} (h : DataMove i s t) :
    t.R = s.R ∨ i = .enc ∨ ∃ v, i = .wrr v ∨ i = .xorr v := by
  rcases h with ⟨⟨-, -, -, hR⟩, -⟩ | ⟨-, ⟨-, -, hR⟩, -⟩ | ⟨hi, -, -⟩ | ⟨hi, -, -, -⟩ | ⟨k, hk, w, -, -, ⟨-, -, hR⟩, -⟩ |
    ⟨b, j, v, -, -, ⟨-, -, hR⟩, -⟩ | ⟨-, ⟨-, -, -, hR⟩, -⟩
  case right => exact .inr (.inr hi)
  case enc => exact .inr (.inl hi)
  all_goals exact .inl hR

/-- Settles O44: by the data moves of `exec`; of a table word written elsewhere the read is the old one. -/
theorem onlyNamedCommandsWriteState : Obligations.OnlyNamedCommandsWriteState := by
  intro i s t hwf ht
  have hm := dataMove_of_exec hwf ht
  refine ⟨fun k hne => ?_, fun b j hne => ?_, hm.L_cases.resolve_left, hm.R_cases.resolve_left, fun hne => ?_,
    hm.errorRecord_eq⟩
  · obtain hP | hi | ⟨p, hp, w, hi, hP⟩ := hm.P_cases
    · exact absurd (by rw [hP]) hne
    · exact .inl hi
    · by_cases hk : k = ⟨p.toNat, hp⟩
      · rw [hk, BitVec.ofNat_toNat, BitVec.setWidth_eq]
        exact .inr hi
      · exact absurd (by rw [hP, readP_writeP_other _ _ hk]) hne
  · obtain hS | hi | ⟨c, q, v, hi, hS⟩ := hm.S_cases
    · exact absurd (by rw [hS]) hne
    · exact .inl hi
    · by_cases hbj : (b, j) = (boxSelect c, entSelect q)
      · obtain ⟨rfl, rfl⟩ := Prod.mk.inj hbj
        rw [boxSelect_val, entSelect_val, BitVec.ofNat_toNat, BitVec.ofNat_toNat, BitVec.setWidth_eq,
          BitVec.setWidth_eq]
        exact .inr ⟨v, hi⟩
      · exact absurd (by rw [hS, readS_writeS_other _ _ hbj]) hne
  · exact (hm.initd_eq.resolve_left hne).1

/-- Settles O45: every well-formed command runs alike on another `STATUS`. -/
theorem dataNeverDependsOnStatus : Obligations.DataNeverDependsOnStatus := by
  intro i s t st hwf ht
  obtain ⟨d, rd, rd', st', hs, hu, hpending, hrd, -⟩ := runsAlike_of_wellFormed hwf s st s.pending
  obtain rfl : t = d.respond .ok rd := by injection ht.symm.trans hs
  refine ⟨_, hu, ⟨fun _ => rfl, fun _ _ => rfl⟩, rfl, rfl, fun hi => ?_⟩
  rw [State.respond_pending, State.respond_pending, hrd hi, hpending]
  rfl

/-- Settles O21: the index selects no P word. -/
theorem termWithNoPWordIsIllegal : Obligations.TermWithNoPWordIsIllegal := fun _ v s h =>
  ⟨⟨_, execWrp_illegal h v s, takeIllegal_effect .illIdx s⟩, ⟨_, execXorp_illegal h v s, takeIllegal_effect .illIdx s⟩,
    ⟨_, execRdp_illegal h s, takeIllegal_effect .illIdx s⟩⟩

/-! ### Repeated reads -/

theorem sameData_of_eq {s t : State} (hP : t.P = s.P) (hS : t.S = s.S) (hL : t.L = s.L) (hR : t.R = s.R)
    (hst : t.status = s.status) : SameData s t :=
  ⟨(sameTables_iff s t).mpr ⟨hP, hS⟩, hL, hR, hst⟩

/-- A command that only responds, with a word that no response changes, answers the same again. -/
theorem repeatable_of_respond {i : Instr} {word : State → Word} (h : ∀ s, exec i s = .next (s.respond .ok (word s)))
    (hword : ∀ s rd, word (s.respond .ok rd) = word s) (s : State) :
    ∃ r t u, exec i s = .next t ∧ SameData s t ∧ Answered s t r ∧ exec i t = .next u ∧ SameData s u ∧
      Answered t u r := by
  have hagain := h (s.respond .ok (word s))
  rw [hword] at hagain
  exact ⟨_, _, _, h s, sameData_respond .ok _ s, answered_respond .ok _ s, hagain, sameData_of_eq rfl rfl rfl rfl rfl,
    answered_respond .ok _ _⟩

/-- Settles O46: the five reads only respond. -/
theorem readsAreRepeatable : Obligations.ReadsAreRepeatable := by
  intro i s hwf hi
  obtain rfl | rfl | rfl | ⟨k, rfl⟩ | ⟨b, j, rfl⟩ := hi
  · exact repeatable_of_respond exec_rdstat (fun _ _ => rfl) s
  · exact repeatable_of_respond exec_rdl (fun _ _ => rfl) s
  · exact repeatable_of_respond exec_rdr (fun _ _ => rfl) s
  · exact repeatable_of_respond (exec_rdp_legal (of_decide_eq_true hwf)) (fun _ _ => rfl) s
  · exact repeatable_of_respond (exec_rds b j) (fun _ _ => rfl) s

/-! ### Repeated writes and XORs -/

theorem writeP_writeP_same (P : PArray) (k : Fin 18) (v w : Word) : writeP (writeP P k v) k w = writeP P k w := by
  simp [writeP]

theorem writeS_writeS_same (S : SBoxes) (b : Fin 4) (j : Fin 256) (v w : Word) :
    writeS (writeS S b j v) b j w = writeS S b j w := by
  simp [writeS]

/-- `P` with `v` mixed into `P[k]` (43_table_access.md R111). -/
def mixP (P : PArray) (k : Fin 18) (v : Word) : PArray := writeP P k (readP P k ^^^ v)

theorem readP_mixP (P : PArray) (k n : Fin 18) (v : Word) :
    readP (mixP P k v) n = if n = k then readP P n ^^^ v else readP P n := by
  split
  · next h => rw [h, mixP, readP_writeP_same]
  · next h => rw [mixP, readP_writeP_other _ _ h]

theorem mixP_mixP_same (P : PArray) (k : Fin 18) (v : Word) : mixP (mixP P k v) k v = P := by
  refine pArray_ext fun n => ?_
  rw [readP_mixP, readP_mixP]
  split
  · exact xor_cancel_right _ _
  · rfl

theorem mixP_comm (P : PArray) (i j : Fin 18) (v w : Word) : mixP (mixP P i v) j w = mixP (mixP P j w) i v := by
  refine pArray_ext fun n => ?_
  simp only [readP_mixP]
  split_ifs
  · rw [BitVec.xor_assoc, BitVec.xor_comm v, ← BitVec.xor_assoc]
  all_goals rfl

theorem exec_xorp_mixP {i : PIdx} (h : i.toNat < 18) (v : Word) (s : State) :
    exec (.xorp i v) s = .next (State.respond .ok 0 { s with P := mixP s.P ⟨i.toNat, h⟩ v }) :=
  exec_xorp_legal h v s

/-- Settles O47: the second write finds the word written, and the second XOR takes the data word out again. -/
theorem writesRepeatAndXorsCancel : Obligations.WritesRepeatAndXorsCancel := by
  intro i s hwf
  refine ⟨fun hi => ?_, fun hi => ?_⟩
  · obtain ⟨v, rfl⟩ | ⟨v, rfl⟩ | ⟨k, v, rfl⟩ | ⟨b, j, v, rfl⟩ := hi
    · exact ⟨_, _, exec_wrl v s, exec_wrl v _, sameData_of_eq rfl rfl rfl rfl rfl⟩
    · exact ⟨_, _, exec_wrr v s, exec_wrr v _, sameData_of_eq rfl rfl rfl rfl rfl⟩
    · have hk : k.toNat < 18 := of_decide_eq_true hwf
      exact ⟨_, _, exec_wrp_legal hk v s, exec_wrp_legal hk v _,
        sameData_of_eq (writeP_writeP_same _ _ _ _) rfl rfl rfl rfl⟩
    · exact ⟨_, _, exec_wrs b j v s, exec_wrs b j v _, sameData_of_eq rfl (writeS_writeS_same _ _ _ _ _) rfl rfl rfl⟩
  · obtain ⟨v, rfl⟩ | ⟨v, rfl⟩ | ⟨k, v, rfl⟩ := hi
    · exact ⟨_, _, exec_xorl v s, exec_xorl v _, sameData_of_eq rfl rfl (xor_cancel_right s.L v) rfl rfl⟩
    · exact ⟨_, _, exec_xorr v s, exec_xorr v _, sameData_of_eq rfl rfl rfl (xor_cancel_right s.R v) rfl⟩
    · have hk : k.toNat < 18 := of_decide_eq_true hwf
      exact ⟨_, _, exec_xorp_mixP hk v s, exec_xorp_mixP hk v _, sameData_of_eq (mixP_mixP_same _ _ _) rfl rfl rfl rfl⟩

/-! ### Commands in a row -/

theorem execAll_cons {i : Instr} {s t : State} (h : exec i s = .next t) (is : List Instr) :
    execAll (i :: is) s = execAll is t := by
  rw [execAll, h]

theorem execAll_singleton {i : Instr} {s t : State} (h : exec i s = .next t) : execAll [i] s = .next t :=
  execAll_cons h []

theorem execAll_pair {i j : Instr} {s t u : State} (hi : exec i s = .next t) (hj : exec j t = .next u) :
    execAll [i, j] s = .next u :=
  (execAll_cons hi [j]).trans (execAll_singleton hj)

/-- Settles O48: mixing two words into the P-array commutes, and both orders answer `OK` twice. -/
theorem xorpCommandsCommute : Obligations.XorpCommandsCommute := by
  intro i j v w s hi hj
  refine ⟨_, execAll_pair (exec_xorp_mixP hi v s) (exec_xorp_mixP hj w _), ?_⟩
  rw [execAll_pair (exec_xorp_mixP hj w s) (exec_xorp_mixP hi v _)]
  simp only [State.respond_P, mixP_comm s.P ⟨i.toNat, hi⟩]
  rfl

theorem eq_writeP {P Q : PArray} {k : Fin 18} {v : Word} (hk : readP Q k = v)
    (hother : ∀ n : Fin 18, n.val ≠ k.val → readP Q n = readP P n) : writeP P k v = Q := by
  refine pArray_ext fun n => ?_
  by_cases hn : n = k
  · rw [hn, readP_writeP_same, hk]
  · rw [readP_writeP_other _ _ hn, hother n (Fin.val_ne_of_ne hn)]

theorem eq_writeS {S T : SBoxes} {b : Fin 4} {j : Fin 256} {v : Word} (hbj : readS T b j = v)
    (hother : ∀ (c : Fin 4) (n : Fin 256), c.val ≠ b.val ∨ n.val ≠ j.val → readS T c n = readS S c n) :
    writeS S b j v = T := by
  refine sBoxes_ext fun c n => ?_
  by_cases hcn : (c, n) = (b, j)
  · obtain ⟨rfl, rfl⟩ := Prod.mk.inj hcn
    rw [readS_writeS_same, hbj]
  · rw [readS_writeS_other _ _ hcn, hother c n (by simpa [Fin.ext_iff, imp_iff_not_or] using hcn)]

/-- Settles O49: the tables that `ENC` runs on are those with the one word written, or the constants. -/
theorem nextEncUsesWrittenTables : Obligations.NextEncUsesWrittenTables := by
  intro s P' S'
  refine ⟨fun i h v hv hother => ?_, fun i h v hv hother => ?_, fun b j v hv hother => ?_, ?_⟩
  · exact ⟨_, _, exec_wrp_legal h v s, exec_enc _, by rw [← eq_writeP hv hother]; rfl⟩
  · exact ⟨_, _, exec_xorp_legal h v s, exec_enc _, by rw [← eq_writeP hv hother]; rfl⟩
  · exact ⟨_, _, exec_wrs b j v s, exec_enc _, by rw [← eq_writeS hv hother]; rfl⟩
  · exact ⟨_, _, exec_init s, exec_enc _, rfl⟩

/-- `s` after the start-up sequence `INIT`, `WRL`, `WRR` (70_reset_and_hazards.md R154): of the tables and the block
nothing is left, and three commands have answered `OK`. -/
def State.startedUp (l r : Word) (s : State) : State :=
  { s with
    P := piP
    S := piS
    L := l
    R := r
    status := setInitd s.status
    pending := s.pending ++ [⟨.ok, 0⟩] ++ [⟨.ok, 0⟩] ++ [⟨.ok, 0⟩] }

theorem execAll_init_wrl_wrr (l r : Word) (s : State) : execAll [.init, .wrl l, .wrr r] s = .next (s.startedUp l r) :=
  (execAll_cons (exec_init s) _).trans (execAll_pair (exec_wrl l _) (exec_wrr r _))

theorem execAll_init_wrr_wrl (l r : Word) (s : State) : execAll [.init, .wrr r, .wrl l] s = .next (s.startedUp l r) :=
  (execAll_cons (exec_init s) _).trans (execAll_pair (exec_wrr r _) (exec_wrl l _))

/-- Settles O50: `startedUp` reads none of the tables and halves. -/
theorem startUpLeavesNoUnspecifiedWord : Obligations.StartUpLeavesNoUnspecifiedWord := fun s P' S' l' r' l r =>
  have hforget : ({ s with P := P', S := S', L := l', R := r' } : State).startedUp l r = s.startedUp l r := rfl
  ⟨⟨_, execAll_init_wrl_wrr l r s, (execAll_init_wrl_wrr l r _).trans (congrArg _ hforget)⟩,
    ⟨_, execAll_init_wrr_wrl l r s, (execAll_init_wrr_wrl l r _).trans (congrArg _ hforget)⟩⟩

end Sys2Proof.Machine
end

section
/-! PROOFS. The linear order of the table words, the pseudo-commands, and runs (20_memory.md section 1, 30_encoding.md
R51, R52, R64). -/

namespace Sys2Proof.Machine

/-! ### The linear order -/

theorem linearBox_toNat {k : Nat} (h : k < 1042) : (linearBox k).toNat = (k - 18) / 256 := by
  rw [linearBox, BitVec.toNat_ofNat, Nat.shiftRight_eq_div_pow]
  omega

theorem linearEnt_toNat (k : Nat) : (linearEnt k).toNat = (k - 18) % 256 := by
  rw [linearEnt, BitVec.toNat_ofNat, Nat.and_two_pow_sub_one_eq_mod _ 8]
  omega

theorem linearWord_eq_readP (s : State) {k : Fin 1042} (h : k.val < 18) : linearWord s k = readP s.P ⟨k.val, h⟩ :=
  dif_pos h

theorem linearWord_eq_readS (s : State) {k : Fin 1042} (h : ¬ k.val < 18) :
    linearWord s k = readS s.S (boxSelect (linearBox k.val)) (entSelect (linearEnt k.val)) :=
  dif_neg h

/-- Settles O51: position 18 + 256 b + j has the box b and the entry j. -/
theorem linearOrderNamesEveryWord : Obligations.LinearOrderNamesEveryWord := by
  intro s
  refine ⟨fun i => linearWord_eq_readP s i.isLt, fun b j => ?_⟩
  have hbox : boxSelect (linearBox (18 + 256 * b.val + j.val)) = b :=
    Fin.ext (by rw [boxSelect_val, linearBox_toNat (by omega)]; omega)
  have hent : entSelect (linearEnt (18 + 256 * b.val + j.val)) = j :=
    Fin.ext (by rw [entSelect_val, linearEnt_toNat]; omega)
  rw [linearWord_eq_readS s (by simp only; omega), hbox, hent]

/-- The S words of two linear positions differ. -/
theorem linear_select_ne {k n : Fin 1042} (hk : ¬ k.val < 18) (hn : ¬ n.val < 18) (hne : n ≠ k) :
    (boxSelect (linearBox n.val), entSelect (linearEnt n.val)) ≠
      (boxSelect (linearBox k.val), entSelect (linearEnt k.val)) := by
  intro h
  obtain ⟨hbox, hent⟩ := Prod.mk.inj h
  have hb := congrArg Fin.val hbox
  have he := congrArg Fin.val hent
  rw [boxSelect_val, boxSelect_val, linearBox_toNat n.isLt, linearBox_toNat k.isLt] at hb
  rw [entSelect_val, entSelect_val, linearEnt_toNat, linearEnt_toNat] at he
  exact hne (Fin.ext (by omega))

/-! ### Reading and writing one linear position -/

/-- `s` with the word at linear position `k` replaced. -/
def State.setLinear (k : Fin 1042) (v : Word) (s : State) : State :=
  if h : k.val < 18 then s.setP ⟨k.val, h⟩ v else s.setS (boxSelect (linearBox k.val)) (entSelect (linearEnt k.val)) v

theorem State.setLinear_of_lt {k : Fin 1042} (h : k.val < 18) (v : Word) (s : State) :
    s.setLinear k v = s.setP ⟨k.val, h⟩ v := dif_pos h

theorem State.setLinear_of_not_lt {k : Fin 1042} (h : ¬ k.val < 18) (v : Word) (s : State) :
    s.setLinear k v = s.setS (boxSelect (linearBox k.val)) (entSelect (linearEnt k.val)) v := dif_neg h

theorem linearWord_setLinear_same (k : Fin 1042) (v : Word) (s : State) : linearWord (s.setLinear k v) k = v := by
  by_cases hk : k.val < 18
  · rw [linearWord_eq_readP _ hk, State.setLinear_of_lt hk, State.setP_P, readP_writeP_same]
  · rw [linearWord_eq_readS _ hk, State.setLinear_of_not_lt hk, State.setS_S, readS_writeS_same]

theorem linearWord_setLinear_other {k n : Fin 1042} (h : n ≠ k) (v : Word) (s : State) :
    linearWord (s.setLinear k v) n = linearWord s n := by
  by_cases hk : k.val < 18 <;> by_cases hn : n.val < 18
  · have hne : (⟨n.val, hn⟩ : Fin 18) ≠ ⟨k.val, hk⟩ := fun e => h (Fin.ext (Fin.mk.inj e))
    rw [linearWord_eq_readP _ hn, linearWord_eq_readP _ hn, State.setLinear_of_lt hk, State.setP_P,
      readP_writeP_other _ _ hne]
  · rw [linearWord_eq_readS _ hn, linearWord_eq_readS _ hn, State.setLinear_of_lt hk, State.setP_S]
  · rw [linearWord_eq_readP _ hn, linearWord_eq_readP _ hn, State.setLinear_of_not_lt hk, State.setS_P]
  · rw [linearWord_eq_readS _ hn, linearWord_eq_readS _ hn, State.setLinear_of_not_lt hk, State.setS_S,
      readS_writeS_other _ _ (linear_select_ne hk hn h)]

/-- Writing a linear position changes no half, no `STATUS` and no channel. -/
theorem setLinear_frame (k : Fin 1042) (v : Word) (s : State) :
    (s.setLinear k v).L = s.L ∧ (s.setLinear k v).R = s.R ∧ (s.setLinear k v).status = s.status ∧
      Answered s ((s.setLinear k v).respond .ok 0) ⟨.ok, 0⟩ := by
  by_cases hk : k.val < 18
  · rw [State.setLinear_of_lt hk]
    exact ⟨rfl, rfl, rfl, answered_respond .ok 0 (s.setP _ v)⟩
  · rw [State.setLinear_of_not_lt hk]
    exact ⟨rfl, rfl, rfl, answered_respond .ok 0 (s.setS _ _ v)⟩

/-- The P index field of a linear position below 18. -/
theorem ofNat_toNat_of_lt {k : Nat} (h : k < 18) : (BitVec.ofNat 5 k).toNat = k := by
  rw [BitVec.toNat_ofNat, Nat.mod_eq_of_lt (by omega)]

/-- `WRT` is `WRP` or `WRS`, and writes its linear position (30_encoding.md R64). -/
theorem execAll_wrt (k : Fin 1042) (v : Word) (s : State) :
    execAll (expandPseudo (.wrt k v)) s = .next ((s.setLinear k v).respond .ok 0) := by
  by_cases hk : k.val < 18
  · have hi := ofNat_toNat_of_lt hk
    have hwrp := exec_wrp_legal (i := BitVec.ofNat 5 k.val) (hi.symm ▸ hk) v s
    simp only [hi] at hwrp
    rw [expandPseudo, if_pos hk, State.setLinear_of_lt hk, execAll_singleton hwrp]
  · rw [expandPseudo, if_neg hk, State.setLinear_of_not_lt hk, execAll_singleton (exec_wrs _ _ v s)]
    rfl

/-- `RDT` is `RDP` or `RDS`, and answers with the word at its linear position (30_encoding.md R64). -/
theorem execAll_rdt (k : Fin 1042) (s : State) :
    execAll (expandPseudo (.rdt k)) s = .next (s.respond .ok (linearWord s k)) := by
  by_cases hk : k.val < 18
  · have hi := ofNat_toNat_of_lt hk
    have hrdp := exec_rdp_legal (i := BitVec.ofNat 5 k.val) (hi.symm ▸ hk) s
    simp only [hi] at hrdp
    rw [expandPseudo, if_pos hk, linearWord_eq_readP s hk, execAll_singleton hrdp]
  · rw [expandPseudo, if_neg hk, linearWord_eq_readS s hk, execAll_singleton (exec_rds _ _ s)]
    rfl

theorem linearWord_respond (st : RspStatus) (rd : Word) (s : State) (k : Fin 1042) :
    linearWord (s.respond st rd) k = linearWord s k := rfl

/-- Settles O52: `WRT` writes, and `RDT` reads, one linear position. -/
theorem wrtAndRdtAccessOnePosition : Obligations.WrtAndRdtAccessOnePosition := by
  intro k v s
  refine ⟨⟨_, execAll_wrt k v s, ?_, fun n hn => ?_, setLinear_frame k v s⟩, _, execAll_rdt k s,
    sameData_respond .ok _ s, answered_respond .ok _ s⟩
  · rw [linearWord_respond, linearWord_setLinear_same]
  · rw [linearWord_respond, linearWord_setLinear_other hn]

/-! ### Encryptions in a row -/

/-- Settles O53, by induction on the number of encryptions. -/
theorem encnIteratesEncryptBlock : Obligations.EncnIteratesEncryptBlock := by
  intro n
  induction n with
  | zero => exact fun s => ⟨s, rfl, rfl, ⟨fun _ => rfl, fun _ _ => rfl⟩, rfl, (List.append_nil _).symm⟩
  | succ n ih =>
    intro s
    obtain ⟨t, ht, hblock, htables, hst, hpending⟩ := ih (s.encrypt.respond .ok 0)
    refine ⟨t, (execAll_cons (exec_enc s) (List.replicate n .enc)).trans ht, hblock, htables, hst, ?_⟩
    rw [hpending, State.respond_pending, List.append_assoc]
    rfl

/-! ### A run beside its fold -/

/-- `s` with other things on the channels and other moves of the host to come. -/
def State.withHost (off : List Command) (pend del : List Response) (ts : List Turn) (s : State) : State :=
  { s with offered := off, pending := pend, delivered := del, turns := ts }

/-- The command moves the data of `s` to `d` and answers `rd`, whatever stands on the channels. -/
def RunsOnAnyHost (i : Instr) (s : State) : Prop :=
  ∃ (d : State) (rd : Word), ∀ off pend del ts,
    exec i (s.withHost off pend del ts) = .next (d.withHost off (pend ++ [⟨.ok, rd⟩]) del ts)

theorem runsOnAnyHost_of_wellFormed {i : Instr} (hwf : i.wellFormed = true) (s : State) : RunsOnAnyHost i s := by
  cases i with
  | nop => exact ⟨s, _, fun _ _ _ _ => exec_nop _⟩
  | init => exact ⟨s.loadInit, _, fun _ _ _ _ => exec_init _⟩
  | enc => exact ⟨s.encrypt, _, fun _ _ _ _ => exec_enc _⟩
  | rdstat => exact ⟨s, statusWord s.status, fun _ _ _ _ => exec_rdstat _⟩
  | wrl v => exact ⟨s.setL v, _, fun _ _ _ _ => exec_wrl v _⟩
  | wrr v => exact ⟨s.setR v, _, fun _ _ _ _ => exec_wrr v _⟩
  | xorl v => exact ⟨s.setL (s.L ^^^ v), _, fun _ _ _ _ => exec_xorl v _⟩
  | xorr v => exact ⟨s.setR (s.R ^^^ v), _, fun _ _ _ _ => exec_xorr v _⟩
  | rdl => exact ⟨s, s.L, fun _ _ _ _ => exec_rdl _⟩
  | rdr => exact ⟨s, s.R, fun _ _ _ _ => exec_rdr _⟩
  | wrp k v =>
    have hk : k.toNat < 18 := of_decide_eq_true hwf
    exact ⟨s.setP ⟨k.toNat, hk⟩ v, _, fun _ _ _ _ => exec_wrp_legal hk v _⟩
  | xorp k v =>
    have hk : k.toNat < 18 := of_decide_eq_true hwf
    exact ⟨s.setP ⟨k.toNat, hk⟩ (readP s.P ⟨k.toNat, hk⟩ ^^^ v), _, fun _ _ _ _ => exec_xorp_legal hk v _⟩
  | rdp k =>
    have hk : k.toNat < 18 := of_decide_eq_true hwf
    exact ⟨s, readP s.P ⟨k.toNat, hk⟩, fun _ _ _ _ => exec_rdp_legal hk _⟩
  | wrs b j v => exact ⟨s.setS b.toFin j.toFin v, _, fun _ _ _ _ => exec_wrs b j v _⟩
  | rds b j => exact ⟨s, readS s.S b.toFin j.toFin, fun _ _ _ _ => exec_rds b j _⟩

theorem run_succ {M : Host.Core} {s t : M.State} (h : M.step s = .next t) (k : Nat) : M.run (k + 1) s = M.run k t := by
  simp [Host.Core.run, h]

theorem run_core_succ {s t : State} (h : step s = .next t) (k : Nat) :
    Host.Core.run Sys2Proof.core (k + 1) s = Host.Core.run Sys2Proof.core k t :=
  run_succ (M := Sys2Proof.core) (s := s) (t := t) h k

/-- A command that runs on any host, offered first to a machine with nothing pending: its turn and the take turn after
it move the data and deliver the answer. -/
theorem run_command_take {i : Instr} {s d : State} {rd : Word} (hwf : i.wellFormed = true)
    (hrun : ∀ off pend del ts,
      exec i (s.withHost off pend del ts) = .next (d.withHost off (pend ++ [⟨.ok, rd⟩]) del ts))
    (off : List Command) (del : List Response) (ts : List Turn) (k : Nat) :
    Host.Core.run Sys2Proof.core (k + 2) (s.withHost (encode i :: off) [] del (.command :: .take :: ts)) =
      Host.Core.run Sys2Proof.core k (d.withHost off [] (del ++ [⟨.ok, rd⟩]) ts) := by
  have hcommand : step (s.withHost (encode i :: off) [] del (.command :: .take :: ts)) =
      .next (d.withHost off [⟨.ok, rd⟩] del (.take :: ts)) := by
    rw [step_of_ready (c := encode i) (rest := off) (.inr ⟨.take :: ts, rfl⟩) rfl (cmdReady_of_none_pending rfl),
      runCommand_of_decode_ok (decodeOfEncodeIsIdentity i hwf)]
    exact hrun off [] del (.take :: ts)
  have htake : step (d.withHost off [⟨.ok, rd⟩] del (.take :: ts)) =
      .next (d.withHost off [] (del ++ [⟨.ok, rd⟩]) ts) := step_take rfl
  rw [run_core_succ hcommand, run_core_succ htake]

/-- The fold and the machine move the same data; the fold leaves the responses `rs` pending, the machine has delivered
them. -/
theorem run_beside_execAll (is : List Instr) (hwf : ∀ i ∈ is, i.wellFormed = true) (s : State) (off : List Command)
    (pend del del' : List Response) (ts : List Turn) :
    ∃ (d : State) (rs : List Response),
      execAll is (s.withHost off pend del ts) = .next (d.withHost off (pend ++ rs) del ts) ∧
      Host.Core.run Sys2Proof.core (2 * is.length) ((s.withHost [] [] del' []).withProgram is) =
        .next (d.withHost [] [] (del' ++ rs) []) := by
  induction is generalizing s pend del' with
  | nil => exact ⟨s, [], by rw [List.append_nil]; rfl, by rw [List.append_nil]; rfl⟩
  | cons i is ih =>
    obtain ⟨hi, his⟩ := List.forall_mem_cons.mp hwf
    obtain ⟨d, rd, hrun⟩ := runsOnAnyHost_of_wellFormed hi s
    obtain ⟨e, rs, hfold, hmachine⟩ := ih his d (pend ++ [⟨.ok, rd⟩]) (del' ++ [⟨.ok, rd⟩])
    refine ⟨e, ⟨.ok, rd⟩ :: rs, ?_, ?_⟩
    · rw [execAll_cons (hrun off pend del ts), hfold, List.append_assoc]
      rfl
    · rw [List.append_assoc] at hmachine
      exact (run_command_take hi hrun (is.map encode) del' _ (2 * is.length)).trans hmachine

/-- Settles O54: the machine beside the fold, from the state itself. -/
theorem runIsTheFoldOfItsCommands : Obligations.RunIsTheFoldOfItsCommands := by
  intro is s hwf hpending
  obtain ⟨d, rs, hfold, hmachine⟩ :=
    run_beside_execAll is hwf s s.offered s.pending s.delivered s.delivered s.turns
  have hempty : s.withProgram is = (s.withHost [] [] s.delivered []).withProgram is := by
    rw [State.withProgram, hpending]
    rfl
  rw [← hempty] at hmachine
  refine ⟨_, _, hfold, hmachine, rfl, rfl, rfl, rfl, rfl, ?_, rfl, rfl, rfl⟩
  rw [hpending]
  rfl

end Sys2Proof.Machine
end
